-- ==== Sys2Proof/Word.lean ====
section
/-! DEFINITION. The widths of the values the block handles (00_scope R8). Bits are numbered from 0, the least
significant (R7). Everything is unsigned. -/

namespace Sys2Proof

/-- One byte of the byte source (20_memory R60). -/
abbrev Byte := BitVec 8

/-- A 32-bit frame word, mask or register value (R8). -/
abbrev Word := BitVec 32

/-- A 16-bit sample (R8). -/
abbrev Sample := BitVec 16

/-- The 64-bit event counter (R8, 10_state R32). -/
abbrev Counter := BitVec 64

/-- A 48-bit HTX48 host transaction descriptor (30_encoding R80). -/
abbrev HostWord := BitVec 48

/-- A GeometricId. The block only copies it, and its width `GEOM_W` is a parameter (92 D12), so it is a natural number;
`Platform.wf` bounds it by `2 ^ GEOM_W`. DESIGN CHOICE, log entry 8. -/
abbrev GeomId := Nat

end Sys2Proof
end

