-- ==== Sys2Proof/Config.lean ====
section
/-! DEFINITION. The constants of 00_scope R5 by name (93 I29 asks for names, so that an audit can change one in one
place), the fixed parameter SRC_ADDR_W, the defaults of R6, and the free values: the draws of 20_memory R64 and the OPEN
predicate of 43_channel_mapper R164. A free value has no body: nothing can be proved of it. -/

namespace Sys2Proof.Config

/-- `LINES`: serial bit-lines, one per bit of a frame word (R5). -/
def lines : Nat := 32
/-- `N_SAMPLES`: samples per chip per event (R5). -/
def nSamples : Nat := 1924
/-- `SAMPLE_BITS`: bits per sample (R5). -/
def sampleBits : Nat := 16
/-- `HEADER_WORDS`: leading words excluded from decoding (R5). -/
def headerWords : Nat := 1
/-- `WORDS_NEEDED = 1 + 1924*16 = 30785`: the least legal WORDS_PER_EVENT (R5). -/
def wordsNeeded : Nat := headerWords + nSamples * sampleBits
/-- `WPE_DEFAULT` (R5). -/
def wpeDefault : Nat := 30788
/-- `CPC_DEFAULT` (R5). -/
def cpcDefault : Nat := 64
/-- `BOARD_MIN` (R5). -/
def boardMin : Nat := 1
/-- `BOARD_MAX` (R5). -/
def boardMax : Nat := 8
/-- `SENTINEL`: the GeometricId of an unmapped channel (R5). -/
def sentinel : GeomId := 0
/-- `SRC_ADDR_W`: the width of a source offset, fixed (R6, 92 D15). -/
def srcAddrW : Nat := 64
/-- The default of the parameter `WPE_MAX`, and the least value it may have (R6). -/
def wpeMaxDefault : Nat := 30788
/-- The default of the parameter `CPC_MAX`, and the least value it may have (R6). -/
def cpcMaxDefault : Nat := 64
/-- The default of the parameter `GEOM_W` (R6). -/
def geomWDefault : Nat := 32

/-- FREE VALUE: the answer of the n-th source request when it is an open and no answer is scripted (the draw `SrcOpenOk`,
20_memory R64, 93 I2). DESIGN CHOICE, log entry 5: safe. -/
opaque freeOpenOk : Nat → Bool

/-- FREE VALUE: whether the n-th source request, a read at the given offset, fails when no answer is scripted (the draw
`SrcIoErr`, 20_memory R64, 93 I3). DESIGN CHOICE, log entry 5: safe. -/
opaque freeIoErr : Nat → Nat → Bool

/-- FREE VALUE: the collaborator's structural check of a record (samples, GeometricIds), before the law of
43_channel_mapper R164 is imposed on it by `RecordCheck.valid` (93 I1). DESIGN CHOICE, log entry 6: safe. -/
opaque freeRecordValid : List Sample → List GeomId → Bool

end Sys2Proof.Config
end

