-- ==== Sys2Proof/Syntax.lean ====
section
/-! DEFINITION. The instructions: one constructor per row of opcode_table.json. A command (CMD32) has no operand, a
register read (HTX48, RW = 0) has none either, a register write (HTX48, RW = 1) carries its 32-bit DATA whole
(30_encoding R83–R87). -/

namespace Sys2Proof

inductive Instr where
  /- CMD32 commands (30_encoding R84) -/
  | nop | start | nextEvent | sessionReset
  /- HTX48 register reads (30_encoding R82) -/
  | rdCtrl | rdStatus | rdErrInfo | rdEventCountLo | rdEventCountHi | rdActiveMask | rdActivePlanes
  | rdBoardCount | rdWordsPerEvent | rdChannelsPerChip | rdHexaboardCount | rdChipsPerHexaboard | rdOutputKey
  | rdCapWpeMax | rdCapCpcMax
  /- HTX48 register writes (30_encoding R82), `v` the DATA field -/
  | wrCtrl (v : Word)
  | wrStatus (v : Word) | wrErrInfo (v : Word) | wrEventCountLo (v : Word) | wrEventCountHi (v : Word)
  | wrActiveMask (v : Word) | wrActivePlanes (v : Word)
  | wrBoardCount (v : Word) | wrWordsPerEvent (v : Word) | wrChannelsPerChip (v : Word)
  | wrHexaboardCount (v : Word) | wrChipsPerHexaboard (v : Word) | wrOutputKey (v : Word)
  | wrCapWpeMax (v : Word) | wrCapCpcMax (v : Word)
  deriving DecidableEq, Repr

/-- The fields of an HTX48 descriptor (30_encoding R80): RW, RSVD, OFFSET, DATA. -/
structure Descriptor where
  /-- `RW`, bit 47: true for a write -/
  write  : Bool
  /-- `RSVD`, bits 46:40 -/
  rsvd   : BitVec 7
  /-- `OFFSET`, bits 39:32 -/
  offset : BitVec 8
  /-- `DATA`, bits 31:0 -/
  data   : Word
  deriving DecidableEq, Repr

end Sys2Proof
end

