-- ==== Sys2Proof/WellFormed.lean ====
section
/-! DEFINITION. Well-formedness. A descriptor is well-formed when the reserved bits of 30_encoding R80 are zero (R81). An
instruction's only operand is a 32-bit value, every one of which is legal (R86, R183), and its width is in its type, so
every term of `Instr` is well-formed. -/

namespace Sys2Proof

/-- `RSVD = 0` (30_encoding R81). -/
def Descriptor.reservedClear (d : Descriptor) : Bool := d.rsvd == 0

/-- A read descriptor has `DATA = 0` (30_encoding R81). -/
def Descriptor.readDataClear (d : Descriptor) : Bool := d.write || d.data == 0

/-- A valid transaction (30_encoding R81). -/
def Descriptor.wellFormed (d : Descriptor) : Bool := d.reservedClear && d.readDataClear

/-- Every instruction is well-formed: it has no field that could hold an illegal value. -/
def Instr.wellFormed (_ : Instr) : Bool := true

end Sys2Proof
end

