-- ==== Sys2Proof/Decode.lean ====
section
/-! DEFINITION. The decoder (30_encoding R80–R87), total on every 48-bit descriptor and every 32-bit command word, then the
encoder written from the same tables (R84, R89, R90; offsets from 10_state R21). -/

namespace Sys2Proof

/-- The fields of a descriptor (30_encoding R80). -/
def Descriptor.ofWord (w : HostWord) : Descriptor where
  write  := w.getLsbD 47
  rsvd   := w.extractLsb' 40 7
  offset := w.extractLsb' 32 8
  data   := w.extractLsb' 0 32

/-- What a descriptor stands for (30_encoding R81, R82). -/
inductive Decoded where
  /-- an access to a register of 10_state R21: a row of the opcode table -/
  | instr (i : Instr)
  /-- a read of an offset that is no register's (R82, 44_host_commands R191) -/
  | unassignedRead (offset : BitVec 8)
  /-- a write of an offset that is no register's (R82, 44_host_commands R191) -/
  | unassignedWrite (offset : BitVec 8) (v : Word)
  /-- refused: "reserved HTX48 bits set" (R81) -/
  | reservedBits
  deriving DecidableEq, Repr

/-- The command a CMD32 word selects: only the full word selects one (30_encoding R84). `none`: the word is reserved
(R85). -/
def decodeCmd32 (v : Word) : Option Instr :=
  match v.toNat with
  | 0 => some .nop
  | 1 => some .start
  | 2 => some .nextEvent
  | 3 => some .sessionReset
  | _ => none

/-- `RD` of the register at an offset (10_state R21); `none`: unassigned. -/
def decodeRead (offset : BitVec 8) : Option Instr :=
  match offset.toNat with
  | 0x00 => some .rdCtrl
  | 0x04 => some .rdStatus
  | 0x08 => some .rdErrInfo
  | 0x0C => some .rdEventCountLo
  | 0x10 => some .rdEventCountHi
  | 0x14 => some .rdActiveMask
  | 0x18 => some .rdActivePlanes
  | 0x1C => some .rdBoardCount
  | 0x20 => some .rdWordsPerEvent
  | 0x24 => some .rdChannelsPerChip
  | 0x28 => some .rdHexaboardCount
  | 0x2C => some .rdChipsPerHexaboard
  | 0x30 => some .rdOutputKey
  | 0x34 => some .rdCapWpeMax
  | 0x38 => some .rdCapCpcMax
  | _ => none

/-- `WR` of the register at an offset (10_state R21); `none`: unassigned. -/
def decodeWrite (offset : BitVec 8) (v : Word) : Option Instr :=
  match offset.toNat with
  | 0x00 => some (.wrCtrl v)
  | 0x04 => some (.wrStatus v)
  | 0x08 => some (.wrErrInfo v)
  | 0x0C => some (.wrEventCountLo v)
  | 0x10 => some (.wrEventCountHi v)
  | 0x14 => some (.wrActiveMask v)
  | 0x18 => some (.wrActivePlanes v)
  | 0x1C => some (.wrBoardCount v)
  | 0x20 => some (.wrWordsPerEvent v)
  | 0x24 => some (.wrChannelsPerChip v)
  | 0x28 => some (.wrHexaboardCount v)
  | 0x2C => some (.wrChipsPerHexaboard v)
  | 0x30 => some (.wrOutputKey v)
  | 0x34 => some (.wrCapWpeMax v)
  | 0x38 => some (.wrCapCpcMax v)
  | _ => none

/-- The decoder of host transactions (30_encoding R80–R82). The command word of a CTRL write is left whole in the
instruction (R83): `WR CTRL, v` runs it. -/
def decode (w : HostWord) : Decoded :=
  let d := Descriptor.ofWord w
  if d.wellFormed then
    if d.write then
      match decodeWrite d.offset d.data with
      | some i => .instr i
      | none => .unassignedWrite d.offset d.data
    else
      match decodeRead d.offset with
      | some i => .instr i
      | none => .unassignedRead d.offset
  else .reservedBits

/-- The instruction of an opcode-table row's bits. The table has two formats (30_encoding R87): a CMD32 row is 32 bits, an
HTX48 row 48. DESIGN CHOICE, log entry 4. -/
def decodeTableWord (nbits w : Nat) : Option Instr :=
  if nbits ≤ 32 then
    if w < 2 ^ 32 then decodeCmd32 (BitVec.ofNat 32 w) else none
  else if nbits ≤ 48 then
    if w < 2 ^ 48 then
      match decode (BitVec.ofNat 48 w) with
      | .instr i => some i
      | _ => none
    else none
  else none

/-! ### The encoder -/

/-- The descriptor that holds the given fields (30_encoding R80). -/
def Descriptor.toWord (d : Descriptor) : HostWord :=
  ((BitVec.ofBool d.write).setWidth 48 <<< 47) ||| (d.rsvd.setWidth 48 <<< 40) ||| (d.offset.setWidth 48 <<< 32)
    ||| d.data.setWidth 48

/-- `RD` of an offset (30_encoding R88, R90). -/
def Descriptor.rd (offset : BitVec 8) : Descriptor := ⟨false, 0, offset, 0⟩

/-- `WR` of a value to an offset (30_encoding R88, R90). -/
def Descriptor.wr (offset : BitVec 8) (v : Word) : Descriptor := ⟨true, 0, offset, v⟩

/-- The descriptor of an instruction. A command is the write of its CMD32 word to CTRL (30_encoding R84, R89). -/
def encodeDescriptor : Instr → Descriptor
  | .nop => .wr 0x00 0
  | .start => .wr 0x00 1
  | .nextEvent => .wr 0x00 2
  | .sessionReset => .wr 0x00 3
  | .rdCtrl => .rd 0x00
  | .rdStatus => .rd 0x04
  | .rdErrInfo => .rd 0x08
  | .rdEventCountLo => .rd 0x0C
  | .rdEventCountHi => .rd 0x10
  | .rdActiveMask => .rd 0x14
  | .rdActivePlanes => .rd 0x18
  | .rdBoardCount => .rd 0x1C
  | .rdWordsPerEvent => .rd 0x20
  | .rdChannelsPerChip => .rd 0x24
  | .rdHexaboardCount => .rd 0x28
  | .rdChipsPerHexaboard => .rd 0x2C
  | .rdOutputKey => .rd 0x30
  | .rdCapWpeMax => .rd 0x34
  | .rdCapCpcMax => .rd 0x38
  | .wrCtrl v => .wr 0x00 v
  | .wrStatus v => .wr 0x04 v
  | .wrErrInfo v => .wr 0x08 v
  | .wrEventCountLo v => .wr 0x0C v
  | .wrEventCountHi v => .wr 0x10 v
  | .wrActiveMask v => .wr 0x14 v
  | .wrActivePlanes v => .wr 0x18 v
  | .wrBoardCount v => .wr 0x1C v
  | .wrWordsPerEvent v => .wr 0x20 v
  | .wrChannelsPerChip v => .wr 0x24 v
  | .wrHexaboardCount v => .wr 0x28 v
  | .wrChipsPerHexaboard v => .wr 0x2C v
  | .wrOutputKey v => .wr 0x30 v
  | .wrCapWpeMax v => .wr 0x34 v
  | .wrCapCpcMax v => .wr 0x38 v

/-- The HTX48 word of an instruction (30_encoding R89, R90). -/
def encode (i : Instr) : HostWord := (encodeDescriptor i).toWord

/-- The CMD32 word of a command (30_encoding R84); `none` for a register access. -/
def encodeCmd32 : Instr → Option Word
  | .nop => some 0
  | .start => some 1
  | .nextEvent => some 2
  | .sessionReset => some 3
  | _ => none

/-- How many bits the opcode table gives the instruction's row: 32 for a CMD32 row, 48 for an HTX48 row. -/
def tableBits (i : Instr) : Nat := if (encodeCmd32 i).isSome then 32 else 48

/-- The instruction's bits as the opcode table numbers them. -/
def tableWord (i : Instr) : Nat :=
  match encodeCmd32 i with
  | some c => c.toNat
  | none => (encode i).toNat

/-! ### The pseudo-instructions of 30_encoding R89 -/

/-- `CONFIG b, w, c` (30_encoding R89). -/
def asmConfig (b w c : Word) : List HostWord :=
  [encode (.wrBoardCount b), encode (.wrWordsPerEvent w), encode (.wrChannelsPerChip c)]

/-- `POLL` (30_encoding R89). -/
def asmPoll : HostWord := encode .rdStatus

end Sys2Proof
end

