-- ==== Sys2Proof/Machine/State.lean ====
section
/-! DEFINITION. The machine's state (10_state), as plain data, the state after reset (70_reset_and_hazards R240), and the
reasons a step can stop. `Session` is exactly the session state of 10_state R49, `CfgRegs` the six configuration
registers. -/

namespace Sys2Proof.Machine

/-- STATUS.STATE (10_state R23). The values 5–7 are never held (93 I24). -/
inductive Phase where
  | uninit | opening | reading | exhausted | aborted
  deriving DecidableEq, Repr

/-- STATUS.CAUSE (10_state R29). The values 6–15 are never held (93 I24). -/
inductive Cause where
  | none | config | mapLoad | streamEnd | ioError | recordValidation
  deriving DecidableEq, Repr

/-- ERR_INFO's two fields (10_state R31); its other bits are reserved and read 0. -/
structure ErrInfo where
  /-- `SUBCAUSE`, bits 3:0 -/
  subcause : BitVec 4
  /-- `PLANE`, bits 12:8 -/
  plane    : BitVec 5
  deriving DecidableEq, Repr

/-- The five exceptions, with what each puts in ERR_INFO (60_exceptions R211). -/
inductive Exc where
  | configError (subcause : BitVec 4)
  | mapLoadError
  | streamEnd
  | ioError (subcause : BitVec 4)
  | recordValidationError (plane : BitVec 5)
  deriving DecidableEq, Repr

/-- Data by index, a list of (index, value) pairs with rising indices and no entry equal to 0; an index not listed holds 0
(`Memory.read`, `Memory.wf`). `Memory Byte` is a list of `Host.Cell`. -/
abbrev Memory (α : Type) := List (Nat × α)

/-- A ChipRecord: one plane's samples and its GeometricIds (43_channel_mapper R163). -/
structure ChipRecord where
  samples : List Sample
  geom    : List GeomId
  deriving DecidableEq, Repr

/-- An EventRecordCollection as the sink gets it (43_channel_mapper R166). -/
structure Collection where
  key     : Word
  event   : Counter
  records : List ChipRecord
  deriving DecidableEq, Repr

/-- A request to the byte source (20_memory R64): `SrcOpen()` or `SrcRead(off, n)`. -/
inductive SrcRequest where
  | srcOpen
  | srcRead (off n : Nat)
  deriving DecidableEq, Repr

/-- The byte source's answer to a read (20_memory R64). -/
inductive SrcAnswer where
  | endOfSource
  | ioErr
  | data (bytes : List Byte)
  deriving DecidableEq, Repr

/-- Which predicate the collaborator supplies as `RECORD_VALID` (43_channel_mapper R164, 93 I1). Log entry 6. -/
inductive RecordCheck where
  /-- the OPEN parameter: any predicate that obeys R164's law, a free value -/
  | collaborator
  /-- the spec's default instance `COUNTS_OK` (R164) -/
  | countsOk
  /-- the instance of 95_test_vectors CM8 and P4: the record's sample 0 is 0 -/
  | firstSampleZero
  deriving DecidableEq, Repr

/-- One entry of the electronics map: `Map(plane, channel) = some(id)` (43_channel_mapper R161). -/
structure MapEntry where
  plane   : Nat
  channel : Nat
  id      : GeomId
  deriving DecidableEq, Repr

/-- What surrounds the block and does not change in a session (10_state R48, 20_memory R74): the byte source's content and
length, the electronics map (a key not listed is unmapped), and the `map_ready` input. -/
structure Platform where
  srcBytes : List Host.Cell
  srcLen   : Nat
  map      : List MapEntry
  mapReady : Bool
  deriving DecidableEq, Repr

/-- The parameters of the implementation (00_scope R6). Log entries 6, 7, 8. -/
structure Params where
  /-- `WPE_MAX`, read at CAP_WPE_MAX (10_state R41) -/
  wpeMax      : Word
  /-- `CPC_MAX`, read at CAP_CPC_MAX (10_state R42) -/
  cpcMax      : Word
  /-- `GEOM_W` -/
  geomWidth   : Nat
  /-- `RECORD_VALID` -/
  recordCheck : RecordCheck
  deriving DecidableEq, Repr

/-- The six configuration registers (10_state R35–R40). -/
structure CfgRegs where
  boardCount       : Word
  wordsPerEvent    : Word
  channelsPerChip  : Word
  hexaboardCount   : Word
  chipsPerHexaboard : Word
  outputKey        : Word
  deriving DecidableEq, Repr

/-- The session state, exactly the set of 10_state R49. -/
structure Session where
  /-- STATUS.STATE (R23) -/
  phase      : Phase
  /-- STATUS.CFG_OK (R24) -/
  cfgOk      : Bool
  /-- STATUS.EVENT_VALID (R25) -/
  eventValid : Bool
  /-- STATUS.CMD_ERR (R26) -/
  cmdErr     : Bool
  /-- STATUS.CAUSE (R29) -/
  cause      : Cause
  /-- ERR_INFO (R31) -/
  errInfo    : ErrInfo
  /-- the event counter EC (R32) -/
  ec         : Counter
  /-- ACTIVE_MASK (R33) -/
  activeMask : Word
  /-- SRC_OPEN (R44) -/
  srcOpen    : Bool
  /-- FB, the frame buffer, by word index (R45) -/
  fb         : Memory Word
  /-- SM, the sample memory: 32 planes, each by sample index (R46) -/
  sm         : List (Memory Sample)
  /-- G, the GeometricId buffer: 32 rows, each by channel index (R47) -/
  geom       : List (Memory GeomId)
  deriving DecidableEq, Repr

/-- What can arrive from outside, in the order it arrives. Log entries 1, 13, 14. -/
inductive HostEvent where
  /-- a host transaction, an HTX48 descriptor (30_encoding R80) -/
  | transaction (w : HostWord)
  /-- the reset input (70_reset_and_hazards R240) -/
  | resetInput
  /-- the platform attaches a source and a map and drives `map_ready` (70_reset_and_hazards R242, step 1) -/
  | attach (p : Platform)
  deriving DecidableEq, Repr

structure State where
  /-- the implementation's parameters (00_scope R6); no step changes them -/
  params     : Params
  /-- the surroundings (10_state R48) -/
  platform   : Platform
  /-- scripted answers to the next opens (the draw `SrcOpenOk`, 20_memory R64); when none is left the answer is free -/
  openDraws  : List Bool
  /-- scripted draws for the next reads (`SrcIoErr`, 20_memory R64); when none is left the draw is free -/
  ioErrDraws : List Bool
  /-- the configuration registers (10_state R35–R40) -/
  cfg        : CfgRegs
  /-- the session state (10_state R49) -/
  session    : Session
  /-- STATUS.BUSY (10_state R27) -/
  busy       : Bool
  /-- the host events not yet executed, oldest first (the model's own field, log entry 1) -/
  inbox      : List HostEvent
  /-- the results of the host's reads, oldest first (30_encoding R80; the model's own field, log entry 2) -/
  results    : List Word
  /-- the sink's history, oldest first (10_state R48) -/
  sink       : List Collection
  /-- the source requests issued, oldest first (70_reset_and_hazards R247; the model's own field, log entry 15) -/
  srcLog     : List SrcRequest
  deriving DecidableEq, Repr

/-- The defaults of 00_scope R6. -/
def Params.default : Params where
  wpeMax      := BitVec.ofNat 32 Config.wpeMaxDefault
  cpcMax      := BitVec.ofNat 32 Config.cpcMaxDefault
  geomWidth   := Config.geomWDefault
  recordCheck := .countsOk

/-- The surroundings in `State.reset`: a source of length 0, an empty map that is loaded. DESIGN CHOICE, log entry 9:
unsafe. -/
def Platform.default : Platform where
  srcBytes := []
  srcLen   := 0
  map      := []
  mapReady := true

/-- The configuration registers after reset (70_reset_and_hazards R240). -/
def CfgRegs.reset : CfgRegs where
  boardCount        := 0
  wordsPerEvent     := BitVec.ofNat 32 Config.wpeDefault
  channelsPerChip   := BitVec.ofNat 32 Config.cpcDefault
  hexaboardCount    := 0
  chipsPerHexaboard := 0
  outputKey         := 0

/-- The session state after reset and after SESSION_RESET (70_reset_and_hazards R240, 44_host_commands R188). The content
of FB, SM and G is unspecified there: every element 0, DESIGN CHOICE, log entry 10. -/
def Session.reset : Session where
  phase      := .uninit
  cfgOk      := false
  eventValid := false
  cmdErr     := false
  cause      := .none
  errInfo    := ⟨0, 0⟩
  ec         := 0
  activeMask := 0
  srcOpen    := false
  fb         := []
  sm         := List.replicate Config.lines []
  geom       := List.replicate Config.lines []

/-- The machine right after power-on (70_reset_and_hazards R240), with the default parameters of 00_scope R6 and nothing
pending. -/
def State.reset : State where
  params     := Params.default
  platform   := Platform.default
  openDraws  := []
  ioErrDraws := []
  cfg        := CfgRegs.reset
  session    := Session.reset
  busy       := false
  inbox      := []
  results    := []
  sink       := []
  srcLog     := []

/-- There is no machine fault: the block raises no trap and never halts (60_exceptions, R232), and every valid transaction
has a defined effect (30_encoding R82). Its exceptions are next states (60_exceptions R210). -/
inductive Fault where
  deriving DecidableEq, Repr

/-- Why a step has no meaning. -/
inductive Refusal where
  /-- raised by an arm of `exec` whose instruction has no meaning yet; safe -/
  | notModelled (mnemonic : String)
  /-- raised by the delivery of a descriptor with `RSVD ≠ 0`, or a read with `DATA ≠ 0`: "reserved HTX48 bits set", no
  meaning in the model (30_encoding R81); safe -/
  | reservedHtx48Bits
  /-- raised by an `attach` event while a session is configured or ended: it breaks the duty of 60_exceptions R226, and such
  a run is outside what the spec says; safe -/
  | hostDutyBroken
  deriving DecidableEq, Repr

end Sys2Proof.Machine
end

