-- ==== Sys2Proof/Machine/Ops.lean ====
section
/-! DEFINITION. The named operations: reads and writes of indexed data, raising an exception and the two resets, the host's
access gate, the byte source's requests, the electronics map and the sink. -/

namespace Sys2Proof.Machine

/-! ### Indexed data -/

/-- The value at an index; an index not listed holds 0. -/
def Memory.read {α : Type} [OfNat α 0] : Memory α → Nat → α
  | [], _ => 0
  | (k, v) :: rest, a => if k = a then v else Memory.read rest a

/-- The `n` values from an index on. -/
def Memory.readRange {α : Type} [OfNat α 0] (m : Memory α) (base n : Nat) : List α :=
  (List.range n).map fun i => m.read (base + i)

/-- The canonical form: indices rise, and no value is 0. -/
def Memory.wf {α : Type} [OfNat α 0] [DecidableEq α] : Memory α → Bool
  | [] => true
  | (k, v) :: rest => decide (v ≠ 0) && rest.all (fun e => decide (k < e.1)) && Memory.wf rest

/-- Every listed index is below a bound. -/
def Memory.below {α : Type} (m : Memory α) (bound : Nat) : Bool := m.all fun e => decide (e.1 < bound)

/-- The cells of a run of values from an index on. -/
def Memory.block {α : Type} [OfNat α 0] [DecidableEq α] : Nat → List α → Memory α
  | _, [] => []
  | base, v :: vs => if v = 0 then Memory.block (base + 1) vs else (base, v) :: Memory.block (base + 1) vs

/-- Writes a run of values from an index on; every other index keeps its value. -/
def Memory.writeRange {α : Type} [OfNat α 0] [DecidableEq α] (m : Memory α) (base : Nat) (vs : List α) : Memory α :=
  m.filter (fun e => decide (e.1 < base)) ++ Memory.block base vs
    ++ m.filter (fun e => decide (base + vs.length ≤ e.1))

/-- Writes row `k` of the values from index 0 on into plane `k`, for every row there is; the other planes keep their
values. -/
def writePlanes {α : Type} [OfNat α 0] [DecidableEq α] : List (Memory α) → List (List α) → List (Memory α)
  | m :: ms, vs :: rows => m.writeRange 0 vs :: writePlanes ms rows
  | ms, [] => ms
  | [], _ => []

/-- The plane with a given number. -/
def planeAt {α : Type} (ms : List (Memory α)) (k : Nat) : Memory α := ms.getD k []

/-! ### Exceptions and resets -/

/-- The terminal state an exception leads to (60_exceptions R211). -/
def Exc.terminal : Exc → Phase
  | .configError _ => .aborted
  | .mapLoadError => .aborted
  | .streamEnd => .exhausted
  | .ioError _ => .exhausted
  | .recordValidationError _ => .aborted

/-- The CAUSE an exception records (60_exceptions R211). -/
def Exc.cause : Exc → Cause
  | .configError _ => .config
  | .mapLoadError => .mapLoad
  | .streamEnd => .streamEnd
  | .ioError _ => .ioError
  | .recordValidationError _ => .recordValidation

/-- The ERR_INFO an exception records (60_exceptions R211). -/
def Exc.info : Exc → ErrInfo
  | .configError sub => ⟨sub, 0⟩
  | .mapLoadError => ⟨0, 0⟩
  | .streamEnd => ⟨0, 0⟩
  | .ioError sub => ⟨sub, 0⟩
  | .recordValidationError plane => ⟨0, plane⟩

/-- Taking an exception (60_exceptions R210): STATE, CAUSE and ERR_INFO are written, nothing else changes. -/
def State.raise (s : State) (x : Exc) : State :=
  { s with session := { s.session with phase := x.terminal, cause := x.cause, errInfo := x.info } }

/-- Ending a session and starting a new one (44_host_commands R188): the only way out of a terminal state beside reset;
there is no return from an exception (60_exceptions R219). -/
def State.newSession (s : State) : State := { s with session := Session.reset }

/-- The reset input (70_reset_and_hazards R240): the session state, the configuration registers and BUSY. The parameters,
the surroundings, the sink's history and the model's own records are not the block's to reset. -/
def State.hardReset (s : State) : State :=
  { s with cfg := CfgRegs.reset, session := Session.reset, busy := false }

/-! ### The host's accesses -/

/-- CMD_ERR is set, nothing else changes (10_state R26, 60_exceptions R218). -/
def State.setCmdErr (s : State) : State := { s with session := { s.session with cmdErr := true } }

/-- EVENT_VALID (10_state R25). -/
def State.setEventValid (s : State) (b : Bool) : State := { s with session := { s.session with eventValid := b } }

/-- STATE (10_state R23). -/
def State.setPhase (s : State) (p : Phase) : State := { s with session := { s.session with phase := p } }

/-- A register read returns a value and has no side effect (44_host_commands R181). -/
def State.answer (s : State) (v : Word) : State := { s with results := s.results ++ [v] }

/-- Every host write passes here: while BUSY it is ignored and sets CMD_ERR (44_host_commands R189). -/
def State.hostWrite (s : State) (f : State → State) : State := if s.busy then s.setCmdErr else f s

/-- CFG_WRITABLE (10_state R43). -/
def State.cfgWritable (s : State) : Bool := decide (s.session.phase = .uninit) && !s.session.cfgOk

/-- A write of a configuration register (44_host_commands R183): stored when CFG_WRITABLE, else CMD_ERR. -/
def State.writeCfg (s : State) (f : CfgRegs → CfgRegs) : State :=
  if s.cfgWritable then { s with cfg := f s.cfg } else s.setCmdErr

/-! ### The byte source (20_memory R64) -/

/-- The answer of `SrcOpen()` now: the next scripted draw, else a free value. -/
def State.openAnswer (s : State) : Bool :=
  match s.openDraws with
  | b :: _ => b
  | [] => Config.freeOpenOk s.srcLog.length

/-- The state once `SrcOpen()` has been issued. -/
def State.afterOpen (s : State) : State :=
  { s with openDraws := s.openDraws.tail, srcLog := s.srcLog ++ [.srcOpen] }

/-- The draw `SrcIoErr(off)` now: the next scripted draw, else a free value. -/
def State.ioErrAnswer (s : State) (off : Nat) : Bool :=
  match s.ioErrDraws with
  | b :: _ => b
  | [] => Config.freeIoErr s.srcLog.length off

/-- `SrcRead(off, n)` would end past the source or past the address width (20_memory R64). -/
def State.pastEnd (s : State) (off n : Nat) : Bool :=
  decide (s.platform.srcLen < off + n) || decide (2 ^ Config.srcAddrW < off + n)

/-- The answer of `SrcRead(off, n)` now: End has priority over IoErr (20_memory R64, 92 D43). -/
def State.readAnswer (s : State) (off n : Nat) : SrcAnswer :=
  if s.pastEnd off n then .endOfSource
  else if s.ioErrAnswer off then .ioErr
  else .data (Memory.readRange s.platform.srcBytes off n)

/-- The state once `SrcRead(off, n)` has been issued; a read past the end draws nothing (93 I3). -/
def State.afterRead (s : State) (off n : Nat) : State :=
  { s with ioErrDraws := if s.pastEnd off n then s.ioErrDraws else s.ioErrDraws.tail,
           srcLog := s.srcLog ++ [.srcRead off n] }

/-! ### The electronics map, the record check and the sink -/

/-- `MapLookup(k, c)` (43_channel_mapper R161). -/
def mapLookup : List MapEntry → Nat → Nat → Option GeomId
  | [], _, _ => none
  | e :: rest, k, c => if e.plane = k ∧ e.channel = c then some e.id else mapLookup rest k c

/-- The record of R164's law: 1924 zero samples and 64 zero GeometricIds. -/
def zeroRecord : ChipRecord := ⟨List.replicate Config.nSamples 0, List.replicate Config.cpcDefault 0⟩

/-- `RECORD_VALID` (43_channel_mapper R164), for a given CHANNELS_PER_CHIP. Whatever the free predicate is, the
collaborator's check obeys R164's law, and every predicate that obeys the law is one of these. Log entry 6. -/
def RecordCheck.valid (check : RecordCheck) (cpc : Nat) (r : ChipRecord) : Bool :=
  match check with
  | .collaborator => decide (r = zeroRecord) || Config.freeRecordValid r.samples r.geom
  | .countsOk => decide (r.samples.length = Config.nSamples) && decide (r.geom.length = cpc)
  | .firstSampleZero => decide (r.samples.head? = some 0)

/-- `SinkEmit` (43_channel_mapper R166): the sink accepts every collection at once (60_exceptions R226). -/
def State.sinkEmit (s : State) (c : Collection) : State := { s with sink := s.sink ++ [c] }

end Sys2Proof.Machine
end

