-- ==== Sys2Proof/Machine/Operands.lean ====
section
/-! DEFINITION. Operands. No encoding carries an operand but a write's 32-bit DATA; a command takes its operands from the
registers (30_encoding R86). This file gives the functions over a mask (00_scope R10) and the quantities the commands
derive from the registers (00_scope R11, 40_frame_reader R100–R102). -/

namespace Sys2Proof.Machine

/-- The positions of the set bits of a mask, lowest first (00_scope R10). -/
def setBits (m : Word) : List Nat := (List.range Config.lines).filter fun i => m.getLsbD i

/-- `popcount(m)` (00_scope R10). -/
def popcount (m : Word) : Nat := (setBits m).length

/-- `pos(m, k)`, the position of the k-th lowest set bit, for `k < popcount m` (00_scope R10). -/
def pos (m : Word) (k : Nat) : Nat := (setBits m).getD k 0

/-- `rank(m, p)`, the number of set bits below `p` (00_scope R10). -/
def rank (m : Word) (p : Nat) : Nat := ((List.range p).filter fun i => m.getLsbD i).length

/-- `P`, the number of active planes (00_scope R11). -/
def State.planes (s : State) : Nat := popcount s.session.activeMask

/-- `WPE`, the frame's words (00_scope R11). -/
def State.wpe (s : State) : Nat := s.cfg.wordsPerEvent.toNat

/-- `CPC`, the channels of a chip (10_state R47). -/
def State.cpc (s : State) : Nat := s.cfg.channelsPerChip.toNat

/-- `frameSize = 4 * WPE` bytes (40_frame_reader R100). -/
def State.frameSize (s : State) : Nat := 4 * s.wpe

/-- The source offset of the frame the next NEXT_EVENT reads: frame `EC` (40_frame_reader R101, R102). Exact over the
naturals (00_scope R8). -/
def State.frameOffset (s : State) : Nat := s.session.ec.toNat * s.frameSize

/-- Whether STATE is EXHAUSTED or ABORTED (60_exceptions R219). -/
def Phase.terminal : Phase → Bool
  | .exhausted | .aborted => true
  | .uninit | .opening | .reading => false

end Sys2Proof.Machine
end

