-- ==== Sys2Proof/Machine/Flags.lean ====
section
/-! DEFINITION. The words the status registers read (10_state R23–R34): each field at its place, reserved bits 0. -/

namespace Sys2Proof.Machine

/-- STATUS.STATE's encoding (10_state R23). -/
def Phase.code : Phase → BitVec 3
  | .uninit => 0
  | .opening => 1
  | .reading => 2
  | .exhausted => 3
  | .aborted => 4

/-- STATUS.CAUSE's encoding (10_state R29). -/
def Cause.code : Cause → BitVec 4
  | .none => 0
  | .config => 1
  | .mapLoad => 2
  | .streamEnd => 3
  | .ioError => 4
  | .recordValidation => 5

/-- STATUS: {0[31:12], CAUSE[11:8], MAP_READY[7], BUSY[6], CMD_ERR[5], EVENT_VALID[4], CFG_OK[3], STATE[2:0]}
(10_state R23–R30). -/
def State.statusWord (s : State) : Word :=
  (s.session.cause.code.setWidth 32 <<< 8) ||| ((BitVec.ofBool s.platform.mapReady).setWidth 32 <<< 7)
    ||| ((BitVec.ofBool s.busy).setWidth 32 <<< 6) ||| ((BitVec.ofBool s.session.cmdErr).setWidth 32 <<< 5)
    ||| ((BitVec.ofBool s.session.eventValid).setWidth 32 <<< 4) ||| ((BitVec.ofBool s.session.cfgOk).setWidth 32 <<< 3)
    ||| s.session.phase.code.setWidth 32

/-- ERR_INFO: {0[31:13], PLANE[12:8], 0[7:4], SUBCAUSE[3:0]} (10_state R31). -/
def ErrInfo.word (e : ErrInfo) : Word := (e.plane.setWidth 32 <<< 8) ||| e.subcause.setWidth 32

/-- EVENT_COUNT_LO: `EC[31:0]` (10_state R32). -/
def State.eventCountLo (s : State) : Word := s.session.ec.extractLsb' 0 32

/-- EVENT_COUNT_HI: `EC[63:32]` (10_state R32). -/
def State.eventCountHi (s : State) : Word := s.session.ec.extractLsb' 32 32

/-- ACTIVE_PLANES: `popcount(ACTIVE_MASK)` in bits 5:0, bits 31:6 zero (10_state R34). -/
def State.activePlanesWord (s : State) : Word := (BitVec.ofNat 6 s.planes).setWidth 32

end Sys2Proof.Machine
end

