-- ==== Sys2Proof/Machine/Demux.lean ====
section
/-! DEFINITION. The bit-plane demultiplexer (42_bitplane_demux), and its inverse for round trips (R147). -/

namespace Sys2Proof.Machine

/-- `off(i, j) = 1 + 16*i + j`, the offset of the word that carries bit `15 - j` of sample `i` (42_bitplane_demux R141). -/
def wordOffset (i j : Nat) : Nat := Config.headerWords + Config.sampleBits * i + j

/-- Sample `i` of the bit-line at position `p`: the loop over `j` of 42_bitplane_demux R143. -/
def demuxSample (fb : Memory Word) (p i : Nat) : Sample :=
  (List.range Config.sampleBits).foldl
    (fun s j => s ||| (((fb.read (wordOffset i j) >>> p) &&& 1).setWidth 16 <<< (15 - j))) 0

/-- The 1924 samples of the bit-line at position `p`. -/
def demuxPlane (fb : Memory Word) (p : Nat) : List Sample := (List.range Config.nSamples).map (demuxSample fb p)

/-- `Demux(FB, m)`: the sample arrays of the active planes, in ascending rank (42_bitplane_demux R143, R144). -/
def demux (fb : Memory Word) (m : Word) : List (List Sample) := (setBits m).map (demuxPlane fb)

/-- The samples are written to `SM[0..P-1]`; the planes from `P` on keep their values (42_bitplane_demux R143). -/
def State.demuxFrame (s : State) : State :=
  { s with session := { s.session with sm := writePlanes s.session.sm (demux s.session.fb s.session.activeMask) } }

/-- Sample `i` of plane `k` of a list of sample arrays. -/
def sampleAt (S : List (List Sample)) (k i : Nat) : Sample := (S.getD k []).getD i 0

/-- The frame word of an inverse at `off(i, j)`: bit `pos(m, k)` is bit `15 - j` of sample `i` of plane `k`, the other bits 0
(42_bitplane_demux R147). -/
def encWord (S : List (List Sample)) (m : Word) (i j : Nat) : Word :=
  (List.range (popcount m)).foldl
    (fun x k => x ||| (BitVec.ofBool ((sampleAt S k i).getLsbD (15 - j))).setWidth 32 <<< pos m k) 0

/-- `Enc(S, m)` (42_bitplane_demux R147) with every bit the rule leaves open 0. -/
def enc (S : List (List Sample)) (m : Word) : Memory Word :=
  Memory.writeRange [] Config.headerWords
    ((List.range (Config.nSamples * Config.sampleBits)).map
      fun n => encWord S m (n / Config.sampleBits) (n % Config.sampleBits))

/-- A frame is an inverse of `S` under `m`: every bit the rule fixes is as it says, the others may be anything
(42_bitplane_demux R147). -/
def IsEnc (fb : Memory Word) (S : List (List Sample)) (m : Word) : Prop :=
  ∀ k < popcount m, ∀ i < Config.nSamples, ∀ j < Config.sampleBits,
    (fb.read (wordOffset i j)).getLsbD (pos m k) = (sampleAt S k i).getLsbD (15 - j)

end Sys2Proof.Machine
end

