-- ==== Sys2Proof/Machine/FrameReader.lean ====
section
/-! DEFINITION. The frame reader (40_frame_reader): the lazy open, the read of frame `EC`, the byte order. -/

namespace Sys2Proof.Machine

/-- `LE32(b0, b1, b2, b3)`: byte 3 is the most significant (20_memory R61, 90_conflicts C1). -/
def le32 (b0 b1 b2 b3 : Byte) : Word :=
  (b3.setWidth 32 <<< 24) ||| (b2.setWidth 32 <<< 16) ||| (b1.setWidth 32 <<< 8) ||| b0.setWidth 32

/-- The normalization of a frame's bytes, 4-byte block by 4-byte block in frame order (40_frame_reader R106). -/
def normalizeFrame : List Byte → List Word
  | b0 :: b1 :: b2 :: b3 :: rest => le32 b0 b1 b2 b3 :: normalizeFrame rest
  | _ => []

/-- `FrameOpen()` (40_frame_reader R103): the source is opened at the first frame request of a session and never again. -/
def State.frameOpen (s : State) : State × Option Exc :=
  if s.session.srcOpen then (s, none)
  else
    let s1 := s.setPhase .opening
    if s1.openAnswer then
      let s2 := s1.afterOpen
      ({ s2 with session := { s2.session with srcOpen := true } }, none)
    else (s1.afterOpen, some (.ioError 1))

/-- `FrameRead()` (40_frame_reader R104): frame `EC` whole, or none of it. -/
def State.frameRead (s : State) : State × Except Exc (List Byte) :=
  (s.afterRead s.frameOffset s.frameSize,
   match s.readAnswer s.frameOffset s.frameSize with
   | .endOfSource => .error .streamEnd
   | .ioErr => .error (.ioError 2)
   | .data b => .ok b)

/-- The normalized frame is written to `FB[0..WPE-1]` (40_frame_reader R106); words at or above WPE keep their values
(10_state R45). -/
def State.loadFrame (s : State) (b : List Byte) : State :=
  { s with session := { s.session with fb := Memory.writeRange s.session.fb 0 (normalizeFrame b) } }

end Sys2Proof.Machine
end

