-- ==== Sys2Proof/Machine/Mapper.lean ====
section
/-! DEFINITION. The channel mapper and record assembler (43_channel_mapper). -/

namespace Sys2Proof.Machine

/-- The GeometricId of plane `k`, channel `c`: the map's, or the sentinel where the channel is unmapped, which is no error
(43_channel_mapper R161, R168, R169). -/
def geomIdOf (map : List MapEntry) (k c : Nat) : GeomId :=
  match mapLookup map k c with
  | none => Config.sentinel
  | some v => v

/-- The lookups of one event: one row a plane, one id a channel (43_channel_mapper R161, R162). -/
def lookups (map : List MapEntry) (planes cpc : Nat) : List (List GeomId) :=
  (List.range planes).map fun k => (List.range cpc).map (geomIdOf map k)

/-- The lookups are written to `G[k][c]` for `k < P`, `c < CPC`; other entries keep their values (43_channel_mapper R161,
10_state R47). -/
def State.mapChannels (s : State) : State :=
  { s with session :=
      { s.session with geom := writePlanes s.session.geom (lookups s.platform.map s.planes s.cpc) } }

/-- `rec_k`, read from SM and G (43_channel_mapper R163). -/
def State.recordAt (s : State) (k : Nat) : ChipRecord where
  samples := (planeAt s.session.sm k).readRange 0 Config.nSamples
  geom    := (planeAt s.session.geom k).readRange 0 s.cpc

/-- `RECORD_VALID` of a record (43_channel_mapper R164). -/
def State.recordValid (s : State) (r : ChipRecord) : Bool := s.params.recordCheck.valid s.cpc r

/-- The first plane, in ascending order, whose record fails (43_channel_mapper R164). -/
def State.firstInvalid (s : State) : Option Nat :=
  (List.range s.planes).find? fun k => !s.recordValid (s.recordAt k)

/-- The collection of the event: the records in ascending plane order, the key, and EC before the increment
(43_channel_mapper R166). -/
def State.collection (s : State) : Collection where
  key     := s.cfg.outputKey
  event   := s.session.ec
  records := (List.range s.planes).map s.recordAt

/-- Emission, then the counter, STATE and EVENT_VALID (43_channel_mapper R166, R167; 44_host_commands R187). -/
def State.emitEvent (s : State) : State :=
  let t := s.sinkEmit s.collection
  { t with session := { t.session with ec := t.session.ec + 1, phase := .reading, eventValid := true } }

/-- Validation of every record, then emission, or no part of the event (43_channel_mapper R164–R166). -/
def State.assemble (s : State) : State :=
  match s.firstInvalid with
  | some k => s.raise (.recordValidationError (BitVec.ofNat 5 k))
  | none => s.emitEvent

end Sys2Proof.Machine
end

