-- ==== Sys2Proof/Machine/Mask.lean ====
section
/-! DEFINITION. The active-plane mask and the configuration check of START (41_mask_and_config). -/

namespace Sys2Proof.Machine

/-- The mask table (41_mask_and_config R120); `none`: the board count is illegal (R121). -/
def maskOf (b : Word) : Option Word :=
  match b.toNat with
  | 1 => some 0x0f000000
  | 2 => some 0xff000000
  | 3 => some 0xff0f0000
  | 4 => some 0xffff0000
  | 5 => some 0xffff0f00
  | 6 => some 0xffffff00
  | 7 => some 0xffffff0f
  | 8 => some 0xffffffff
  | _ => none

/-- `ConfigCheck()` in R128's order, the first failure raised: the board count (R121), a frame too short (R124) or too long
(R125), the channel count (R126), the map (R127). When it passes it gives the mask START latches (R129). -/
def State.configCheck (s : State) : Except Exc Word :=
  match maskOf s.cfg.boardCount with
  | none => .error (.configError 1)
  | some m =>
    if s.wpe < Config.wordsNeeded then .error (.configError 2)
    else if s.params.wpeMax.toNat < s.wpe then .error (.configError 3)
    else if s.cpc = 0 ∨ s.params.cpcMax.toNat < s.cpc then .error (.configError 4)
    else if s.platform.mapReady then .ok m
    else .error .mapLoadError

/-- The effect of a passing check (41_mask_and_config R129). -/
def State.latchConfig (s : State) (m : Word) : State :=
  { s with session := { s.session with activeMask := m, cfgOk := true } }

/-- START (44_host_commands R186): legal once per session. -/
def State.start (s : State) : State :=
  if s.cfgWritable then
    match s.configCheck with
    | .error x => s.raise x
    | .ok m => s.latchConfig m
  else s.setCmdErr

end Sys2Proof.Machine
end

