-- ==== Sys2Proof/Machine/Commands.lean ====
section
/-! DEFINITION. The commands (44_host_commands R184–R188). A command is the write of its word to CTRL, so it passes the gate
every host write passes (R184, R189). Each runs to its end in one step (R180): BUSY and the transient STATE are not seen
between steps. -/

namespace Sys2Proof.Machine

/-- A frame's bytes to the sink: normalization, Demux, lookups, validation and emission, in that order
(44_host_commands R187, 20_memory R69). -/
def State.processFrame (s : State) (b : List Byte) : State :=
  (((s.loadFrame b).demuxFrame).mapChannels).assemble

/-- The part of NEXT_EVENT that requests a frame (44_host_commands R187). -/
def State.produceEvent (s : State) : State :=
  match s.frameOpen with
  | (s1, some x) => s1.raise x
  | (s1, none) =>
    match s1.frameRead with
    | (s2, .error x) => s2.raise x
    | (s2, .ok b) => s2.processFrame b

/-- NEXT_EVENT (44_host_commands R187). -/
def State.nextEvent (s : State) : State :=
  let s0 := s.setEventValid false
  if s0.session.phase.terminal then s0
  else if s0.cfgWritable then s0.setCmdErr
  else s0.produceEvent

/-- The write of a CMD32 word to CTRL, past the gate (44_host_commands R184); a reserved word sets CMD_ERR and nothing else
(30_encoding R85). -/
def State.runCommand (s : State) (v : Word) : State :=
  match decodeCmd32 v with
  | some .nop => s
  | some .start => s.start
  | some .nextEvent => s.nextEvent
  | some .sessionReset => s.newSession
  | _ => s.setCmdErr

/-- `NOP` (44_host_commands R185). -/
def execNop (s : State) : Host.Outcome State Fault Refusal := .next (s.hostWrite fun t => t)

/-- `START` (44_host_commands R186). -/
def execStart (s : State) : Host.Outcome State Fault Refusal := .next (s.hostWrite State.start)

/-- `NEXT_EVENT` (44_host_commands R187). -/
def execNextEvent (s : State) : Host.Outcome State Fault Refusal := .next (s.hostWrite State.nextEvent)

/-- `SESSION_RESET` (44_host_commands R188). -/
def execSessionReset (s : State) : Host.Outcome State Fault Refusal := .next (s.hostWrite State.newSession)

/-- `WR CTRL, v` (44_host_commands R184). -/
def execWrCtrl (v : Word) (s : State) : Host.Outcome State Fault Refusal :=
  .next (s.hostWrite fun t => t.runCommand v)

end Sys2Proof.Machine
end

