-- ==== Sys2Proof/Machine/Reads.lean ====
section
/-! DEFINITION. The register reads (44_host_commands R181, R190): each returns its register's value and has no side
effect. -/

namespace Sys2Proof.Machine

/-- `RD CTRL` (44_host_commands R190: CTRL stores nothing). -/
def execRdCtrl (s : State) : Host.Outcome State Fault Refusal := .next (s.answer 0)

/-- `RD STATUS` (44_host_commands R181; 10_state R23–R30). -/
def execRdStatus (s : State) : Host.Outcome State Fault Refusal := .next (s.answer s.statusWord)

/-- `RD ERR_INFO` (44_host_commands R181; 10_state R31). -/
def execRdErrInfo (s : State) : Host.Outcome State Fault Refusal := .next (s.answer s.session.errInfo.word)

/-- `RD EVENT_COUNT_LO` (44_host_commands R181; 10_state R32). -/
def execRdEventCountLo (s : State) : Host.Outcome State Fault Refusal := .next (s.answer s.eventCountLo)

/-- `RD EVENT_COUNT_HI` (44_host_commands R181; 10_state R32). -/
def execRdEventCountHi (s : State) : Host.Outcome State Fault Refusal := .next (s.answer s.eventCountHi)

/-- `RD ACTIVE_MASK` (44_host_commands R181; 10_state R33). -/
def execRdActiveMask (s : State) : Host.Outcome State Fault Refusal := .next (s.answer s.session.activeMask)

/-- `RD ACTIVE_PLANES` (44_host_commands R181; 10_state R34). -/
def execRdActivePlanes (s : State) : Host.Outcome State Fault Refusal := .next (s.answer s.activePlanesWord)

/-- `RD BOARD_COUNT` (44_host_commands R181; 10_state R35). -/
def execRdBoardCount (s : State) : Host.Outcome State Fault Refusal := .next (s.answer s.cfg.boardCount)

/-- `RD WORDS_PER_EVENT` (44_host_commands R181; 10_state R36). -/
def execRdWordsPerEvent (s : State) : Host.Outcome State Fault Refusal := .next (s.answer s.cfg.wordsPerEvent)

/-- `RD CHANNELS_PER_CHIP` (44_host_commands R181; 10_state R37). -/
def execRdChannelsPerChip (s : State) : Host.Outcome State Fault Refusal := .next (s.answer s.cfg.channelsPerChip)

/-- `RD HEXABOARD_COUNT` (44_host_commands R181; 10_state R38). -/
def execRdHexaboardCount (s : State) : Host.Outcome State Fault Refusal := .next (s.answer s.cfg.hexaboardCount)

/-- `RD CHIPS_PER_HEXABOARD` (44_host_commands R181; 10_state R39). -/
def execRdChipsPerHexaboard (s : State) : Host.Outcome State Fault Refusal := .next (s.answer s.cfg.chipsPerHexaboard)

/-- `RD OUTPUT_KEY` (44_host_commands R181; 10_state R40). -/
def execRdOutputKey (s : State) : Host.Outcome State Fault Refusal := .next (s.answer s.cfg.outputKey)

/-- `RD CAP_WPE_MAX` (44_host_commands R181; 10_state R41). -/
def execRdCapWpeMax (s : State) : Host.Outcome State Fault Refusal := .next (s.answer s.params.wpeMax)

/-- `RD CAP_CPC_MAX` (44_host_commands R181; 10_state R42). -/
def execRdCapCpcMax (s : State) : Host.Outcome State Fault Refusal := .next (s.answer s.params.cpcMax)

end Sys2Proof.Machine
end

