-- ==== Sys2Proof/Machine/Writes.lean ====
section
/-! DEFINITION. The register writes but CTRL's (44_host_commands R182, R183), and the accesses to unassigned offsets
(R191). Every write passes the gate of R189. -/

namespace Sys2Proof.Machine

/-! ### Read-only registers: the write is ignored -/

/-- `WR STATUS, v` (44_host_commands R182). -/
def execWrStatus (_v : Word) (s : State) : Host.Outcome State Fault Refusal := .next (s.hostWrite fun t => t)

/-- `WR ERR_INFO, v` (44_host_commands R182). -/
def execWrErrInfo (_v : Word) (s : State) : Host.Outcome State Fault Refusal := .next (s.hostWrite fun t => t)

/-- `WR EVENT_COUNT_LO, v` (44_host_commands R182). -/
def execWrEventCountLo (_v : Word) (s : State) : Host.Outcome State Fault Refusal := .next (s.hostWrite fun t => t)

/-- `WR EVENT_COUNT_HI, v` (44_host_commands R182). -/
def execWrEventCountHi (_v : Word) (s : State) : Host.Outcome State Fault Refusal := .next (s.hostWrite fun t => t)

/-- `WR ACTIVE_MASK, v` (44_host_commands R182). -/
def execWrActiveMask (_v : Word) (s : State) : Host.Outcome State Fault Refusal := .next (s.hostWrite fun t => t)

/-- `WR ACTIVE_PLANES, v` (44_host_commands R182). -/
def execWrActivePlanes (_v : Word) (s : State) : Host.Outcome State Fault Refusal := .next (s.hostWrite fun t => t)

/-- `WR CAP_WPE_MAX, v` (44_host_commands R182). -/
def execWrCapWpeMax (_v : Word) (s : State) : Host.Outcome State Fault Refusal := .next (s.hostWrite fun t => t)

/-- `WR CAP_CPC_MAX, v` (44_host_commands R182). -/
def execWrCapCpcMax (_v : Word) (s : State) : Host.Outcome State Fault Refusal := .next (s.hostWrite fun t => t)

/-! ### Configuration registers: all 32 bits are stored when CFG_WRITABLE, else CMD_ERR -/

/-- `WR BOARD_COUNT, v` (44_host_commands R183). -/
def execWrBoardCount (v : Word) (s : State) : Host.Outcome State Fault Refusal :=
  .next (s.hostWrite fun t => t.writeCfg fun c => { c with boardCount := v })

/-- `WR WORDS_PER_EVENT, v` (44_host_commands R183). -/
def execWrWordsPerEvent (v : Word) (s : State) : Host.Outcome State Fault Refusal :=
  .next (s.hostWrite fun t => t.writeCfg fun c => { c with wordsPerEvent := v })

/-- `WR CHANNELS_PER_CHIP, v` (44_host_commands R183). -/
def execWrChannelsPerChip (v : Word) (s : State) : Host.Outcome State Fault Refusal :=
  .next (s.hostWrite fun t => t.writeCfg fun c => { c with channelsPerChip := v })

/-- `WR HEXABOARD_COUNT, v` (44_host_commands R183). -/
def execWrHexaboardCount (v : Word) (s : State) : Host.Outcome State Fault Refusal :=
  .next (s.hostWrite fun t => t.writeCfg fun c => { c with hexaboardCount := v })

/-- `WR CHIPS_PER_HEXABOARD, v` (44_host_commands R183). -/
def execWrChipsPerHexaboard (v : Word) (s : State) : Host.Outcome State Fault Refusal :=
  .next (s.hostWrite fun t => t.writeCfg fun c => { c with chipsPerHexaboard := v })

/-- `WR OUTPUT_KEY, v` (44_host_commands R183). -/
def execWrOutputKey (v : Word) (s : State) : Host.Outcome State Fault Refusal :=
  .next (s.hostWrite fun t => t.writeCfg fun c => { c with outputKey := v })

/-! ### Unassigned offsets (44_host_commands R191) -/

/-- A read of an unassigned offset returns 0. -/
def State.readUnassigned (s : State) : State := s.answer 0

/-- A write of an unassigned offset is ignored and does not set CMD_ERR. -/
def State.writeUnassigned (s : State) : State := s.hostWrite fun t => t

end Sys2Proof.Machine
end

