-- ==== Sys2Proof/Machine/Dispatch.lean ====
section
/-! DEFINITION. One arm per instruction. -/

namespace Sys2Proof.Machine

def exec (i : Instr) (s : State) : Host.Outcome State Fault Refusal :=
  match i with
  | .nop => Sys2Proof.Machine.execNop s
  | .start => Sys2Proof.Machine.execStart s
  | .nextEvent => Sys2Proof.Machine.execNextEvent s
  | .sessionReset => Sys2Proof.Machine.execSessionReset s
  | .rdCtrl => Sys2Proof.Machine.execRdCtrl s
  | .rdStatus => Sys2Proof.Machine.execRdStatus s
  | .rdErrInfo => Sys2Proof.Machine.execRdErrInfo s
  | .rdEventCountLo => Sys2Proof.Machine.execRdEventCountLo s
  | .rdEventCountHi => Sys2Proof.Machine.execRdEventCountHi s
  | .rdActiveMask => Sys2Proof.Machine.execRdActiveMask s
  | .rdActivePlanes => Sys2Proof.Machine.execRdActivePlanes s
  | .rdBoardCount => Sys2Proof.Machine.execRdBoardCount s
  | .rdWordsPerEvent => Sys2Proof.Machine.execRdWordsPerEvent s
  | .rdChannelsPerChip => Sys2Proof.Machine.execRdChannelsPerChip s
  | .rdHexaboardCount => Sys2Proof.Machine.execRdHexaboardCount s
  | .rdChipsPerHexaboard => Sys2Proof.Machine.execRdChipsPerHexaboard s
  | .rdOutputKey => Sys2Proof.Machine.execRdOutputKey s
  | .rdCapWpeMax => Sys2Proof.Machine.execRdCapWpeMax s
  | .rdCapCpcMax => Sys2Proof.Machine.execRdCapCpcMax s
  | .wrCtrl v => Sys2Proof.Machine.execWrCtrl v s
  | .wrStatus v => Sys2Proof.Machine.execWrStatus v s
  | .wrErrInfo v => Sys2Proof.Machine.execWrErrInfo v s
  | .wrEventCountLo v => Sys2Proof.Machine.execWrEventCountLo v s
  | .wrEventCountHi v => Sys2Proof.Machine.execWrEventCountHi v s
  | .wrActiveMask v => Sys2Proof.Machine.execWrActiveMask v s
  | .wrActivePlanes v => Sys2Proof.Machine.execWrActivePlanes v s
  | .wrBoardCount v => Sys2Proof.Machine.execWrBoardCount v s
  | .wrWordsPerEvent v => Sys2Proof.Machine.execWrWordsPerEvent v s
  | .wrChannelsPerChip v => Sys2Proof.Machine.execWrChannelsPerChip v s
  | .wrHexaboardCount v => Sys2Proof.Machine.execWrHexaboardCount v s
  | .wrChipsPerHexaboard v => Sys2Proof.Machine.execWrChipsPerHexaboard v s
  | .wrOutputKey v => Sys2Proof.Machine.execWrOutputKey v s
  | .wrCapWpeMax v => Sys2Proof.Machine.execWrCapWpeMax v s
  | .wrCapCpcMax v => Sys2Proof.Machine.execWrCapCpcMax v s

end Sys2Proof.Machine
end

