-- ==== Sys2Proof/Machine/HostPort.lean ====
section
/-! DEFINITION. The host port: the block fetches nothing, the host pushes each transaction (10_state R20, R22; 20_memory
R72). One event of the inbox is executed whole by one step (44_host_commands R180). Log entries 1, 3, 13, 14, 19. -/

namespace Sys2Proof.Machine

/-- One host transaction (44_host_commands R180; 30_encoding R81, R82). -/
def State.deliver (s : State) (w : HostWord) : Host.Outcome State Fault Refusal :=
  match decode w with
  | .instr i => exec i s
  | .unassignedRead _ => .next s.readUnassigned
  | .unassignedWrite _ _ => .next s.writeUnassigned
  | .reservedBits => .refused .reservedHtx48Bits

/-- The platform attaches a source and a map and drives `map_ready` (70_reset_and_hazards R242, step 1). From START to the
end of the session they must stay as they are (60_exceptions R226, 20_memory R74): breaking that duty is refused. -/
def State.attachPlatform (s : State) (p : Platform) : Host.Outcome State Fault Refusal :=
  if s.cfgWritable then .next { s with platform := p } else .refused .hostDutyBroken

/-- One event from outside. -/
def State.takeEvent (s : State) (e : HostEvent) : Host.Outcome State Fault Refusal :=
  match e with
  | .transaction w => s.deliver w
  | .resetInput => .next s.hardReset
  | .attach p => s.attachPlatform p

/-- The oldest pending event is executed; with none pending the block holds its state (60_exceptions R231,
70_reset_and_hazards R241). -/
def State.stepInbox (s : State) : Host.Outcome State Fault Refusal :=
  match s.inbox with
  | [] => .next s
  | e :: rest => State.takeEvent { s with inbox := rest } e

/-- The host transaction of an opcode-table row's bits: a CMD32 row is a word written to CTRL (30_encoding R83, R84), an
HTX48 row is the descriptor itself. Log entry 4. -/
def tableTransaction (nbits w : Nat) : HostWord :=
  if nbits ≤ 32 then (Descriptor.wr 0x00 (BitVec.ofNat 32 w)).toWord else BitVec.ofNat 48 w

/-- A transaction is put before those already pending. -/
def State.pushTransaction (s : State) (w : HostWord) : State := { s with inbox := .transaction w :: s.inbox }

/-- The host transactions of a program are put after those already pending (70_reset_and_hazards R247). -/
def State.loadProgram (s : State) (ws : List HostWord) : State :=
  { s with inbox := s.inbox ++ ws.map .transaction }

end Sys2Proof.Machine
end

