-- ==== Sys2Proof/Machine/Step.lean ====
section
/-! DEFINITION. The step: one host event (44_host_commands R180). -/

namespace Sys2Proof.Machine

/-- One step. -/
def step (s : State) : Host.Outcome State Fault Refusal := s.stepInbox

/-- The state whose next step executes exactly the given opcode-table bits. -/
def State.withFetchWord (s : State) (nbits w : Nat) : State := s.pushTransaction (tableTransaction nbits w)

end Sys2Proof.Machine
end

