-- ==== Sys2Proof/Safety.lean ====
section
/-! DEFINITION. What claims are stated in terms of: the ends of a run and what it observes (70_reset_and_hazards R247), the
host's exit decision (60_exceptions R232), and the invariants of the machine. -/

namespace Sys2Proof.Machine

/-- A run has finished: STATE is EXHAUSTED or ABORTED (70_reset_and_hazards R247). -/
def State.finished (s : State) : Bool := s.session.phase.terminal

/-- What is observed at the end of a run (70_reset_and_hazards R247): FB, SM and G are not. -/
structure Observation where
  sink    : List Collection
  status  : Word
  errInfo : Word
  ec      : Counter
  cfg     : CfgRegs
  requests : List SrcRequest
  deriving DecidableEq, Repr

/-- The observation of R247. -/
def State.observe (s : State) : Observation where
  sink     := s.sink
  status   := s.statusWord
  errInfo  := s.session.errInfo.word
  ec       := s.session.ec
  cfg      := s.cfg
  requests := s.srcLog

/-- The host's reading of the terminal states (60_exceptions R232): `some true` a normal termination, `some false` the
non-zero exit, `none` not terminal. -/
def State.normalExit (s : State) : Option Bool :=
  match s.session.phase with
  | .exhausted => some true
  | .aborted => some false
  | _ => none

/-- A successful START has been made and the session goes on: "ready" or READING (95_test_vectors 2.7). -/
def State.eventReady (s : State) : Bool :=
  (decide (s.session.phase = .uninit) && s.session.cfgOk) || decide (s.session.phase = .reading)

/-- The offsets of 10_state R21. -/
def registerOffsets : List (BitVec 8) :=
  [0x00, 0x04, 0x08, 0x0C, 0x10, 0x14, 0x18, 0x1C, 0x20, 0x24, 0x28, 0x2C, 0x30, 0x34, 0x38]

/-- The host word of NEXT_EVENT (30_encoding R89). -/
def nextWord : HostWord := 0x800000000002

/-- The host word of SESSION_RESET (30_encoding R89). -/
def sresetWord : HostWord := 0x800000000003

/-- `r` is the record of plane `k` of frame `EC`, read bit by bit from the source's bytes: 40_frame_reader R101, 20_memory
R61, 42_bitplane_demux R142 and 43_channel_mapper R161 put together, with no internal memory between. Bit `p` of a frame word
is bit `p % 8` of its byte `p / 8`. -/
def State.IsFrameRecord (s : State) (k : Nat) (r : ChipRecord) : Prop :=
  r.samples.length = Config.nSamples ∧
  (∀ i < Config.nSamples, ∀ j < Config.sampleBits,
    (r.samples.getD i 0).getLsbD (15 - j) =
      (Memory.read s.platform.srcBytes
        (s.session.ec.toNat * (4 * s.cfg.wordsPerEvent.toNat) + 4 * (1 + 16 * i + j)
          + pos s.session.activeMask k / 8)).getLsbD (pos s.session.activeMask k % 8)) ∧
  r.geom.length = s.cfg.channelsPerChip.toNat ∧
  ∀ c < s.cfg.channelsPerChip.toNat, r.geom.getD c 0 =
    match mapLookup s.platform.map k c with
    | none => 0
    | some v => v

/-- The source requests the request for an event issues before its outcome: an open when the source is not open, then a
read of frame `EC` (40_frame_reader R103, R104). -/
def State.eventRequests (s : State) : List SrcRequest :=
  (if s.session.srcOpen then [] else [.srcOpen]) ++
    [.srcRead (s.session.ec.toNat * (4 * s.cfg.wordsPerEvent.toNat)) (4 * s.cfg.wordsPerEvent.toNat)]

/-- The source is open, or opening it now succeeds. -/
def State.canOpen (s : State) : Bool := s.session.srcOpen || s.openAnswer

/-- Frame `EC` lies inside the source and inside the address width (20_memory R64). -/
def State.frameInSource (s : State) : Bool :=
  decide ((s.session.ec.toNat + 1) * (4 * s.cfg.wordsPerEvent.toNat) ≤ s.platform.srcLen) &&
    decide ((s.session.ec.toNat + 1) * (4 * s.cfg.wordsPerEvent.toNat) ≤ 2 ^ 64)

/-- The draw `SrcIoErr` of the read of frame `EC`, once the source is open (20_memory R64). -/
def State.readFails (s : State) : Bool :=
  match s.ioErrDraws with
  | b :: _ => b
  | [] => Config.freeIoErr (s.srcLog.length + (if s.session.srcOpen then 0 else 1))
      (s.session.ec.toNat * (4 * s.cfg.wordsPerEvent.toNat))

/-! ### Invariants -/

/-- The constraints on the parameters (00_scope R6). -/
def Params.wf (p : Params) : Bool :=
  decide (Config.wpeMaxDefault ≤ p.wpeMax.toNat) && decide (Config.cpcMaxDefault ≤ p.cpcMax.toNat)
    && decide (1 ≤ p.geomWidth)

/-- The source's bytes are in canonical form and inside the source; a map key's plane is one of 0..31 and its id has
`GEOM_W` bits (00_scope R6). -/
def Platform.wf (params : Params) (p : Platform) : Bool :=
  Memory.wf p.srcBytes && Memory.below p.srcBytes p.srcLen
    && p.map.all fun e => decide (e.plane < Config.lines) && decide (e.id < 2 ^ params.geomWidth)

/-- What an event brings is well-formed. -/
def HostEvent.wf (params : Params) : HostEvent → Bool
  | .transaction _ => true
  | .resetInput => true
  | .attach p => p.wf params

/-- CAUSE and ERR_INFO fit STATE (10_state R29, R31; 60_exceptions R211); `planes` is the number of active planes. -/
def causeFits (planes : Nat) (cfgOk : Bool) (phase : Phase) (cause : Cause) (e : ErrInfo) : Bool :=
  match phase, cause with
  | .uninit, .none => decide (e = ⟨0, 0⟩)
  | .reading, .none => decide (e = ⟨0, 0⟩)
  | .exhausted, .streamEnd => decide (e = ⟨0, 0⟩)
  | .exhausted, .ioError => decide (e = ⟨1, 0⟩) || decide (e = ⟨2, 0⟩)
  | .aborted, .config =>
    !cfgOk && (decide (1 ≤ e.subcause.toNat) && decide (e.subcause.toNat ≤ 4)) && decide (e.plane = 0)
  | .aborted, .mapLoad => !cfgOk && decide (e = ⟨0, 0⟩)
  | .aborted, .recordValidation => cfgOk && decide (e.subcause = 0) && decide (e.plane.toNat < planes)
  | _, _ => false

/-- The control state of a session is coherent: the rules of 10_state that say which values go together. -/
structure State.SessionInv (s : State) : Prop where
  /-- BUSY is 0 between transactions (10_state R27) -/
  notBusy : s.busy = false
  /-- STATE is never OPEN between transactions (10_state R23, 93 I25) -/
  notOpening : s.session.phase ≠ .opening
  /-- CAUSE and ERR_INFO fit STATE -/
  causeFits : causeFits s.planes s.session.cfgOk s.session.phase s.session.cause s.session.errInfo = true
  /-- a validated session has a legal configuration, and the mask is its board count's (41_mask_and_config R129) -/
  configured : s.session.cfgOk = true →
    maskOf s.cfg.boardCount = some s.session.activeMask ∧ Config.wordsNeeded ≤ s.wpe ∧
      s.wpe ≤ s.params.wpeMax.toNat ∧ 1 ≤ s.cpc ∧ s.cpc ≤ s.params.cpcMax.toNat
  /-- one that is not has no mask (60_exceptions R212, R213) and is fresh or aborted -/
  unconfigured : s.session.cfgOk = false →
    s.session.activeMask = 0 ∧ (s.session.phase = .uninit ∨ s.session.phase = .aborted) ∧
      s.session.ec = 0 ∧ s.session.srcOpen = false
  /-- before the first frame request nothing is open and nothing has been produced (10_state R23, R44) -/
  fresh : s.session.phase = .uninit → s.session.ec = 0 ∧ s.session.srcOpen = false
  /-- READING: the source is open and at least one event has been produced (10_state R23) -/
  reading : s.session.phase = .reading → s.session.srcOpen = true ∧ 1 ≤ s.session.ec.toNat
  /-- EVENT_VALID only in READING (10_state R25) -/
  validReading : s.session.eventValid = true → s.session.phase = .reading
  /-- every produced frame ends inside the source and inside the address width (20_memory R64, 10_state R32) -/
  produced : s.frameOffset ≤ s.platform.srcLen ∧ s.frameOffset ≤ 2 ^ Config.srcAddrW

/-- The data the block holds and the data it is given are in canonical form and inside their bounds (10_state R45–R47,
00_scope R6). -/
structure State.DataInv (s : State) : Prop where
  params : s.params.wf = true
  platform : s.platform.wf s.params = true
  events : ∀ e ∈ s.inbox, e.wf s.params = true
  /-- FB has WPE_MAX words (10_state R45) -/
  fb : Memory.wf s.session.fb = true ∧ Memory.below s.session.fb s.params.wpeMax.toNat = true
  /-- SM has 32 planes of 1924 samples (10_state R46) -/
  sm : s.session.sm.length = Config.lines ∧
    ∀ m ∈ s.session.sm, Memory.wf m = true ∧ Memory.below m Config.nSamples = true
  /-- G has 32 rows of CPC_MAX ids of GEOM_W bits (10_state R47) -/
  geom : s.session.geom.length = Config.lines ∧
    ∀ m ∈ s.session.geom, Memory.wf m = true ∧ Memory.below m s.params.cpcMax.toNat = true ∧
      ∀ e ∈ m, e.2 < 2 ^ s.params.geomWidth

/-- A collection has the shape of 43_channel_mapper R163 and R166: a legal number of records, each of 1924 samples and the
same legal number of ids of GEOM_W bits. -/
def Collection.shaped (params : Params) (c : Collection) : Prop :=
  (∃ b : Nat, Config.boardMin ≤ b ∧ b ≤ Config.boardMax ∧ c.records.length = 4 * b) ∧
  ∃ cpc : Nat, 1 ≤ cpc ∧ cpc ≤ params.cpcMax.toNat ∧
    ∀ r ∈ c.records, r.samples.length = Config.nSamples ∧ r.geom.length = cpc ∧
      ∀ g ∈ r.geom, g < 2 ^ params.geomWidth

/-- Every collection the sink got is well-shaped. -/
def State.SinkInv (s : State) : Prop := ∀ c ∈ s.sink, c.shaped s.params

end Sys2Proof.Machine
end

