-- ==== Sys2Proof/Certificates/Slice0/Obligations.lean ====
section
/-! DEFINITION. The statements for the provers. Each docstring names the rule of spec/ it formalises. Premises such as
`s.SessionInv` are the invariants of Sys2Proof/Safety.lean, which are statements of their own. -/

open Sys2Proof Sys2Proof.Machine

/-- The words of 95_test_vectors 2.1 and 30_encoding R89, R90 decode to the transactions the spec names for them, one or more of every family. (30_encoding.md R89, 30_encoding.md R90, 95_test_vectors.md 2.1) -/
def Obligations.SpecWordsDecode : Prop :=
  decode 0x800000000001 = .instr (.wrCtrl 1) ∧ decode 0x800000000012 = .instr (.wrCtrl 0x12) ∧
  decode 0x000400000000 = .instr .rdStatus ∧ decode 0x001000000000 = .instr .rdEventCountHi ∧
  decode 0x801C00000008 = .instr (.wrBoardCount 8) ∧ decode 0x802000007841 = .instr (.wrWordsPerEvent 30785) ∧
  decode 0x80300000005A = .instr (.wrOutputKey 0x5A) ∧ decode 0x000500000000 = .unassignedRead 0x05 ∧
  decode 0x803C00000005 = .unassignedWrite 0x3C 5 ∧ decode 0x810000000000 = .reservedBits ∧
  decode 0x000400000001 = .reservedBits ∧ decodeCmd32 2 = some .nextEvent ∧
  decodeTableWord 32 3 = some .sessionReset ∧ decodeTableWord 48 0x800400000000 = some (.wrStatus 0)

/-- The word of RD of a register is its offset shifted left by 32, and the word of WR of v is 0x800000000000 | (offset << 32) | v, for every register of 10_state R21 and every v; R90's three examples hold. (R90) -/
def Obligations.HostWordFormula : Prop :=
  (∀ p ∈ [(Instr.rdCtrl, 0x00), (Instr.rdStatus, 0x04), (Instr.rdErrInfo, 0x08),
      (Instr.rdEventCountLo, 0x0C), (Instr.rdEventCountHi, 0x10), (Instr.rdActiveMask, 0x14),
      (Instr.rdActivePlanes, 0x18), (Instr.rdBoardCount, 0x1C), (Instr.rdWordsPerEvent, 0x20),
      (Instr.rdChannelsPerChip, 0x24), (Instr.rdHexaboardCount, 0x28),
      (Instr.rdChipsPerHexaboard, 0x2C), (Instr.rdOutputKey, 0x30), (Instr.rdCapWpeMax, 0x34),
      (Instr.rdCapCpcMax, 0x38)],
    (encode p.1).toNat = p.2 <<< 32) ∧
  (∀ v : Word, ∀ p ∈ [(Instr.wrCtrl v, 0x00), (Instr.wrStatus v, 0x04), (Instr.wrErrInfo v, 0x08),
      (Instr.wrEventCountLo v, 0x0C), (Instr.wrEventCountHi v, 0x10),
      (Instr.wrActiveMask v, 0x14), (Instr.wrActivePlanes v, 0x18), (Instr.wrBoardCount v, 0x1C),
      (Instr.wrWordsPerEvent v, 0x20), (Instr.wrChannelsPerChip v, 0x24),
      (Instr.wrHexaboardCount v, 0x28), (Instr.wrChipsPerHexaboard v, 0x2C),
      (Instr.wrOutputKey v, 0x30), (Instr.wrCapWpeMax v, 0x34), (Instr.wrCapCpcMax v, 0x38)],
    (encode p.1).toNat = 0x800000000000 ||| (p.2 <<< 32) ||| v.toNat) ∧
  encode (.wrBoardCount 1) = 0x801C00000001 ∧ encode (.wrWordsPerEvent 30785) = 0x802000007841 ∧
  encode .rdEventCountLo = 0x000C00000000

/-- The CMD32 words 0, 1, 2, 3 select NOP, START, NEXT_EVENT, SESSION_RESET, and no other word selects a command; a command's host word decodes to the CTRL write of its CMD32 word. (R84) -/
def Obligations.CommandWordMap : Prop :=
  (∀ v : Word, decodeCmd32 v =
    if v = 0 then some .nop else if v = 1 then some .start else if v = 2 then some .nextEvent
    else if v = 3 then some .sessionReset else none) ∧
  ∀ (i : Instr) (c : Word), encodeCmd32 i = some c → decode (encode i) = .instr (.wrCtrl c) ∧ decodeCmd32 c = some i

/-- For every well-formed instruction, with every 32-bit operand, decoding its opcode-table bits (32 for a CMD32 row, 48 for an HTX48 row) gives that instruction. (30_encoding.md R80, 30_encoding.md R82, 30_encoding.md R84, 30_encoding.md R87) -/
def Obligations.TableWordRoundTrip : Prop :=
  ∀ i : Instr, i.wellFormed = true → decodeTableWord (tableBits i) (tableWord i) = some i

/-- If a 48-bit word decodes to an instruction, encoding that instruction gives the word: no bit of a valid descriptor is dropped. (30_encoding.md R80, 30_encoding.md R81, 30_encoding.md R82) -/
def Obligations.DecodedWordEncodesBack : Prop :=
  ∀ (w : HostWord) (i : Instr), decode w = .instr i → encode i = w

/-- A descriptor is refused as reservedBits exactly when RSVD is not 0 or it is a read whose DATA is not 0, and a step on such a transaction is refused by name, with no next state. (R81) -/
def Obligations.ReservedDescriptorsRefused : Prop :=
  ∀ w : HostWord,
    (decode w = .reservedBits ↔
      w.extractLsb' 40 7 ≠ 0 ∨ (w.getLsbD 47 = false ∧ w.extractLsb' 0 32 ≠ 0)) ∧
    ((w.extractLsb' 40 7 ≠ 0 ∨ (w.getLsbD 47 = false ∧ w.extractLsb' 0 32 ≠ 0)) →
      ∀ (s : State) (rest : List HostEvent), s.inbox = .transaction w :: rest →
        step s = .refused .reservedHtx48Bits)

/-- A descriptor with its reserved bits clear decodes to the access of a register, in its direction and with its DATA, when OFFSET is one of the fifteen of 10_state R21, and to an unassigned access of that offset otherwise. (30_encoding.md R82, 10_state.md R21) -/
def Obligations.OffsetDecidesTheAccess : Prop :=
  ∀ w : HostWord, w.extractLsb' 40 7 = 0 → (w.getLsbD 47 = false → w.extractLsb' 0 32 = 0) →
    if w.extractLsb' 32 8 ∈ registerOffsets then
      ∃ i, decode w = .instr i ∧ (encodeDescriptor i).write = w.getLsbD 47 ∧
        (encodeDescriptor i).offset = w.extractLsb' 32 8 ∧ (encodeDescriptor i).data = w.extractLsb' 0 32
    else decode w =
      if w.getLsbD 47 then .unassignedWrite (w.extractLsb' 32 8) (w.extractLsb' 0 32)
      else .unassignedRead (w.extractLsb' 32 8)

/-- A valid transaction at an offset that is no register's returns 0 if it is a read, and if it is a write (not while BUSY, R189) changes no state and does not set CMD_ERR. (R191) -/
def Obligations.UnassignedAccessEffect : Prop :=
  ∀ (s : State) (rest : List HostEvent) (w : HostWord), s.inbox = .transaction w :: rest →
    w.extractLsb' 40 7 = 0 → w.extractLsb' 32 8 ∉ registerOffsets →
      (w.getLsbD 47 = false → w.extractLsb' 0 32 = 0 →
        step s = .next { s with inbox := rest, results := s.results ++ [0] }) ∧
      (w.getLsbD 47 = true → s.busy = false → step s = .next { s with inbox := rest })

/-- When the oldest pending event is a transaction whose word decodes to a well-formed instruction, the step is exec of that instruction on the state with the event removed. (44_host_commands.md R180, 30_encoding.md R82) -/
def Obligations.StepRunsDecodedInstr : Prop :=
  ∀ (s : State) (w : HostWord) (rest : List HostEvent) (i : Instr), s.inbox = .transaction w :: rest →
    decode w = .instr i → i.wellFormed = true → step s = exec i { s with inbox := rest }

/-- A step with no pending host event answers the same state. (60_exceptions.md R231, 70_reset_and_hazards.md R241) -/
def Obligations.IdleHoldsState : Prop :=
  ∀ s : State, s.inbox = [] → step s = .next s

/-- If the decoder reads an instruction from a table row's bits, the next step of the state in which those bits are placed is exec of that instruction on the original state; a CMD32 row runs through the CTRL write that carries it (the model's choice, log entries 1 and 4). (30_encoding.md R83, 44_host_commands.md R180, 44_host_commands.md R184) -/
def Obligations.FetchWordRunsTableRow : Prop :=
  ∀ (s : State) (nbits w : Nat) (i : Instr), decodeTableWord nbits w = some i →
    step (s.withFetchWord nbits w) = exec i s

/-- An attach event replaces the surroundings while CFG_WRITABLE and is refused by name otherwise; the event is the model's own (DESIGN CHOICE, log entry 14) for the duty of R226. (60_exceptions.md R226, 70_reset_and_hazards.md R242, 10_state.md R43) -/
def Obligations.AttachOnlyBeforeStart : Prop :=
  ∀ (s : State) (p : Platform) (rest : List HostEvent), s.inbox = .attach p :: rest →
    (s.session.phase = .uninit ∧ s.session.cfgOk = false →
      step s = .next { s with inbox := rest, platform := p }) ∧
    (¬ (s.session.phase = .uninit ∧ s.session.cfgOk = false) → step s = .refused .hostDutyBroken)

/-- RD STATUS answers a word whose fields are STATE in 2:0, CFG_OK, EVENT_VALID, CMD_ERR, BUSY, MAP_READY (the input) in bits 3 to 7, CAUSE in 11:8 and 0 above, with the encodings of R23 and R29, and leaves all state as it was. (10_state.md R23, 10_state.md R24, 10_state.md R25, 10_state.md R26, 10_state.md R27, 10_state.md R28, 10_state.md R29, 10_state.md R30, 44_host_commands.md R181) -/
def Obligations.ReadStatusLayout : Prop :=
  (∀ s : State, ∃ v : Word, exec .rdStatus s = .next { s with results := s.results ++ [v] } ∧
    v.extractLsb' 0 3 = s.session.phase.code ∧ v.getLsbD 3 = s.session.cfgOk ∧
    v.getLsbD 4 = s.session.eventValid ∧ v.getLsbD 5 = s.session.cmdErr ∧ v.getLsbD 6 = s.busy ∧
    v.getLsbD 7 = s.platform.mapReady ∧ v.extractLsb' 8 4 = s.session.cause.code ∧ v.extractLsb' 12 20 = 0) ∧
  Phase.uninit.code = 0 ∧ Phase.opening.code = 1 ∧ Phase.reading.code = 2 ∧ Phase.exhausted.code = 3 ∧
  Phase.aborted.code = 4 ∧ Cause.none.code = 0 ∧ Cause.config.code = 1 ∧ Cause.mapLoad.code = 2 ∧
  Cause.streamEnd.code = 3 ∧ Cause.ioError.code = 4 ∧ Cause.recordValidation.code = 5

/-- RD ERR_INFO answers a word with SUBCAUSE in 3:0, PLANE in 12:8 and every other bit 0, and leaves all state as it was. (10_state.md R31, 44_host_commands.md R181) -/
def Obligations.ReadErrInfoLayout : Prop :=
  ∀ s : State, ∃ v : Word, exec .rdErrInfo s = .next { s with results := s.results ++ [v] } ∧
    v.extractLsb' 0 4 = s.session.errInfo.subcause ∧ v.extractLsb' 8 5 = s.session.errInfo.plane ∧
    v.extractLsb' 4 4 = 0 ∧ v.extractLsb' 13 19 = 0

/-- RD EVENT_COUNT_LO and RD EVENT_COUNT_HI answer words lo and hi with hi * 2^32 + lo equal to EC, and leave all state as it was. (10_state.md R32, 44_host_commands.md R181) -/
def Obligations.ReadEventCountHalves : Prop :=
  ∀ s : State, ∃ lo hi : Word, exec .rdEventCountLo s = .next { s with results := s.results ++ [lo] } ∧
    exec .rdEventCountHi s = .next { s with results := s.results ++ [hi] } ∧
    hi.toNat * 2 ^ 32 + lo.toNat = s.session.ec.toNat

/-- RD ACTIVE_PLANES answers the number of positions 0..31 at which ACTIVE_MASK has a 1, which fits bits 5:0, and leaves all state as it was. (10_state.md R34, 00_scope.md R10, 44_host_commands.md R181) -/
def Obligations.ReadActivePlanesCount : Prop :=
  ∀ s : State, ∃ v : Word, exec .rdActivePlanes s = .next { s with results := s.results ++ [v] } ∧
    v.toNat = ((List.range 32).filter fun i => s.session.activeMask.getLsbD i).length ∧
    v.extractLsb' 6 26 = 0

/-- RD CTRL answers 0; RD of ACTIVE_MASK, of each configuration register and of the two capability registers answers the register's value; all state is as it was but for the answer. (44_host_commands.md R190, 44_host_commands.md R181, 10_state.md R33, 10_state.md R35, 10_state.md R36, 10_state.md R37, 10_state.md R38, 10_state.md R39, 10_state.md R40, 10_state.md R41, 10_state.md R42) -/
def Obligations.ReadPlainRegisters : Prop :=
  ∀ s : State,
    exec .rdCtrl s = .next { s with results := s.results ++ [0x00000000] } ∧
    exec .rdActiveMask s = .next { s with results := s.results ++ [s.session.activeMask] } ∧
    exec .rdBoardCount s = .next { s with results := s.results ++ [s.cfg.boardCount] } ∧
    exec .rdWordsPerEvent s = .next { s with results := s.results ++ [s.cfg.wordsPerEvent] } ∧
    exec .rdChannelsPerChip s = .next { s with results := s.results ++ [s.cfg.channelsPerChip] } ∧
    exec .rdHexaboardCount s = .next { s with results := s.results ++ [s.cfg.hexaboardCount] } ∧
    exec .rdChipsPerHexaboard s = .next { s with results := s.results ++ [s.cfg.chipsPerHexaboard] } ∧
    exec .rdOutputKey s = .next { s with results := s.results ++ [s.cfg.outputKey] } ∧
    exec .rdCapWpeMax s = .next { s with results := s.results ++ [s.params.wpeMax] } ∧
    exec .rdCapCpcMax s = .next { s with results := s.results ++ [s.params.cpcMax] }

/-- WR of STATUS, ERR_INFO, EVENT_COUNT_LO, EVENT_COUNT_HI, ACTIVE_MASK, ACTIVE_PLANES, CAP_WPE_MAX and CAP_CPC_MAX, with any value and not while BUSY, answers the same state: CMD_ERR is not set. (R182) -/
def Obligations.ReadOnlyWritesIgnored : Prop :=
  ∀ (s : State) (v : Word), s.busy = false →
    exec (.wrStatus v) s = .next s ∧ exec (.wrErrInfo v) s = .next s ∧
    exec (.wrEventCountLo v) s = .next s ∧ exec (.wrEventCountHi v) s = .next s ∧
    exec (.wrActiveMask v) s = .next s ∧ exec (.wrActivePlanes v) s = .next s ∧
    exec (.wrCapWpeMax v) s = .next s ∧ exec (.wrCapCpcMax v) s = .next s

/-- Not while BUSY: WR of a configuration register stores the value whole, whatever it is, and changes nothing else, when STATE is UNINIT and CFG_OK is 0; in any other state it sets CMD_ERR and changes nothing else. (R183) -/
def Obligations.ConfigWriteStoresOrSetsCmdErr : Prop :=
  ∀ (s : State) (v : Word), s.busy = false →
    (s.session.phase = .uninit ∧ s.session.cfgOk = false →
      exec (.wrBoardCount v) s = .next { s with cfg := { s.cfg with boardCount := v } } ∧
      exec (.wrWordsPerEvent v) s = .next { s with cfg := { s.cfg with wordsPerEvent := v } } ∧
      exec (.wrChannelsPerChip v) s = .next { s with cfg := { s.cfg with channelsPerChip := v } } ∧
      exec (.wrHexaboardCount v) s = .next { s with cfg := { s.cfg with hexaboardCount := v } } ∧
      exec (.wrChipsPerHexaboard v) s = .next { s with cfg := { s.cfg with chipsPerHexaboard := v } } ∧
      exec (.wrOutputKey v) s = .next { s with cfg := { s.cfg with outputKey := v } }) ∧
    (¬ (s.session.phase = .uninit ∧ s.session.cfgOk = false) →
      ∀ i ∈ [Instr.wrBoardCount v, Instr.wrWordsPerEvent v, Instr.wrChannelsPerChip v,
        Instr.wrHexaboardCount v, Instr.wrChipsPerHexaboard v, Instr.wrOutputKey v],
        exec i s = .next { s with session := { s.session with cmdErr := true } })

/-- In a state with BUSY = 1, a step on any valid write transaction, to any offset and with any value, commands included, sets CMD_ERR and changes nothing else. (R189) -/
def Obligations.WriteWhileBusyIgnored : Prop :=
  ∀ (s : State) (rest : List HostEvent) (w : HostWord), s.busy = true → s.inbox = .transaction w :: rest →
    w.getLsbD 47 = true → w.extractLsb' 40 7 = 0 →
    step s = .next { s with inbox := rest, session := { s.session with cmdErr := true } }

/-- Not while BUSY, WR CTRL of 0, 1, 2, 3 gives the next state NOP, START, NEXT_EVENT, SESSION_RESET give, and WR CTRL of any other word sets CMD_ERR and changes nothing else; while BUSY, WR CTRL of any word sets CMD_ERR and changes nothing else. (R184, R85) -/
def Obligations.CtrlWriteIssuesCommand : Prop :=
  ∀ s : State,
    (s.busy = false →
      exec .nop s = .next s ∧ exec (.wrCtrl 0) s = .next s ∧
      (∃ t, exec .start s = .next t ∧ exec (.wrCtrl 1) s = .next t) ∧
      (∃ t, exec .nextEvent s = .next t ∧ exec (.wrCtrl 2) s = .next t) ∧
      (∃ t, exec .sessionReset s = .next t ∧ exec (.wrCtrl 3) s = .next t) ∧
      ∀ v : Word, 4 ≤ v.toNat →
        exec (.wrCtrl v) s = .next { s with session := { s.session with cmdErr := true } }) ∧
    (s.busy = true → ∀ v : Word,
      exec (.wrCtrl v) s = .next { s with session := { s.session with cmdErr := true } })

/-- NOP, in every state that is not BUSY, the terminal ones included, answers the same state. (R185) -/
def Obligations.NopChangesNothing : Prop :=
  ∀ s : State, s.busy = false → exec .nop s = .next s

/-- With STATE = UNINIT, CFG_OK = 0, BOARD_COUNT b in 1..8, WORDS_PER_EVENT in 30785..WPE_MAX, CHANNELS_PER_CHIP in 1..CPC_MAX and map_ready = 1, START writes ACTIVE_MASK with the table's mask, which has 4*b set bits, and CFG_OK = 1, changes nothing else, and the configuration is locked from then on. (R129) -/
def Obligations.StartLatchesMask : Prop :=
  ∀ s : State, s.busy = false → s.session.phase = .uninit → s.session.cfgOk = false →
    1 ≤ s.cfg.boardCount.toNat → s.cfg.boardCount.toNat ≤ 8 →
    30785 ≤ s.cfg.wordsPerEvent.toNat → s.cfg.wordsPerEvent.toNat ≤ s.params.wpeMax.toNat →
    1 ≤ s.cfg.channelsPerChip.toNat → s.cfg.channelsPerChip.toNat ≤ s.params.cpcMax.toNat →
    s.platform.mapReady = true →
    ∃ (m : Word) (t : State),
      (s.cfg.boardCount, m) ∈ [((1 : Word), (0x0f000000 : Word)), (2, 0xff000000), (3, 0xff0f0000),
        (4, 0xffff0000), (5, 0xffff0f00), (6, 0xffffff00), (7, 0xffffff0f), (8, 0xffffffff)] ∧
      exec .start s = .next t ∧
      t = { s with session := { s.session with activeMask := m, cfgOk := true } } ∧
      popcount t.session.activeMask = 4 * s.cfg.boardCount.toNat ∧ t.cfgWritable = false

/-- With STATE = UNINIT and CFG_OK = 0, not while BUSY: an illegal BOARD_COUNT gives ABORTED, CAUSE 1, SUBCAUSE 1; else WORDS_PER_EVENT below 30785 SUBCAUSE 2; else above WPE_MAX SUBCAUSE 3; else an illegal CHANNELS_PER_CHIP SUBCAUSE 4; else map_ready = 0 gives ABORTED, CAUSE 2, ERR_INFO 0; nothing else changes. (R128) -/
def Obligations.StartRaisesFirstFailure : Prop :=
  ∀ s : State, s.busy = false → s.session.phase = .uninit → s.session.cfgOk = false →
    let b := s.cfg.boardCount.toNat
    let w := s.cfg.wordsPerEvent.toNat
    let c := s.cfg.channelsPerChip.toNat
    let abort := fun (cause : Cause) (sub : BitVec 4) =>
      ({ s with session := { s.session with phase := .aborted, cause := cause, errInfo := ⟨sub, 0⟩ } } : State)
    ((b < 1 ∨ 8 < b) → exec .start s = .next (abort .config 1)) ∧
    (1 ≤ b → b ≤ 8 → w < 30785 → exec .start s = .next (abort .config 2)) ∧
    (1 ≤ b → b ≤ 8 → 30785 ≤ w → s.params.wpeMax.toNat < w → exec .start s = .next (abort .config 3)) ∧
    (1 ≤ b → b ≤ 8 → 30785 ≤ w → w ≤ s.params.wpeMax.toNat → (c = 0 ∨ s.params.cpcMax.toNat < c) →
      exec .start s = .next (abort .config 4)) ∧
    (1 ≤ b → b ≤ 8 → 30785 ≤ w → w ≤ s.params.wpeMax.toNat → 1 ≤ c → c ≤ s.params.cpcMax.toNat →
      s.platform.mapReady = false → exec .start s = .next (abort .mapLoad 0)) ∧
    (1 ≤ b → b ≤ 8 → 30785 ≤ w → w ≤ s.params.wpeMax.toNat → 1 ≤ c → c ≤ s.params.cpcMax.toNat →
      s.platform.mapReady = true → ∃ m, s.configCheck = .ok m)

/-- Not while BUSY: START in any state but UNINIT with CFG_OK = 0 sets CMD_ERR and changes nothing else. (44_host_commands.md R186, 95_test_vectors.md ST4) -/
def Obligations.StartOutOfStateSetsCmdErr : Prop :=
  ∀ s : State, s.busy = false → ¬ (s.session.phase = .uninit ∧ s.session.cfgOk = false) →
    exec .start s = .next { s with session := { s.session with cmdErr := true } }

/-- For every 32-bit b there is no mask exactly when b is outside 1..8, and for such a b START (STATE = UNINIT, CFG_OK = 0, not BUSY) with that BOARD_COUNT raises ConfigError with SUBCAUSE 1. (R121) -/
def Obligations.IllegalBoardCountHasNoMask : Prop :=
  ∀ b : Word, (maskOf b = none ↔ (b.toNat < 1 ∨ 8 < b.toNat)) ∧
    ((b.toNat < 1 ∨ 8 < b.toNat) → ∀ s : State, s.busy = false → s.session.phase = .uninit →
      s.session.cfgOk = false → s.cfg.boardCount = b →
        exec .start s = .next
          { s with session := { s.session with phase := .aborted, cause := .config, errInfo := ⟨1, 0⟩ } })

/-- MaskOf(1) to MaskOf(8) are the table's masks, with the table's numbers of planes and set bit positions in ascending rank. (R120) -/
def Obligations.MaskTable : Prop :=
  ∀ e ∈ [((1 : Word), (0x0f000000 : Word), 4, List.range' 24 4), (2, 0xff000000, 8, List.range' 24 8),
      (3, 0xff0f0000, 12, List.range' 16 4 ++ List.range' 24 8), (4, 0xffff0000, 16, List.range' 16 16),
      (5, 0xffff0f00, 20, List.range' 8 4 ++ List.range' 16 16), (6, 0xffffff00, 24, List.range' 8 24),
      (7, 0xffffff0f, 28, List.range' 0 4 ++ List.range' 8 24), (8, 0xffffffff, 32, List.range' 0 32)],
    maskOf e.1 = some e.2.1 ∧ popcount e.2.1 = e.2.2.1 ∧
      (List.range e.2.2.1).map (pos e.2.1) = e.2.2.2

/-- For every 32-bit m: popcount counts the set bits; for k < popcount(m), pos(m, k) is a set bit with exactly k set bits below it, and it is the only one; for a set bit p, pos(m, rank(m, p)) = p. (R10) -/
def Obligations.RankInvertsPosition : Prop :=
  ∀ m : Word,
    popcount m = ((List.range 32).filter fun i => m.getLsbD i).length ∧
    (∀ k < popcount m, m.getLsbD (pos m k) = true ∧
      ((List.range (pos m k)).filter fun i => m.getLsbD i).length = k ∧
      ∀ p < 32, m.getLsbD p = true → ((List.range p).filter fun i => m.getLsbD i).length = k → p = pos m k) ∧
    ∀ p < 32, m.getLsbD p = true →
      rank m p = ((List.range p).filter fun i => m.getLsbD i).length ∧ rank m p < popcount m ∧
      pos m (rank m p) = p

/-- In UNINIT with CFG_OK = 0, not BUSY, NEXT_EVENT clears EVENT_VALID, sets CMD_ERR and changes nothing else: no source request is issued. (44_host_commands.md R187, 95_test_vectors.md ST5) -/
def Obligations.NextEventBeforeStart : Prop :=
  ∀ s : State, s.busy = false → s.session.phase = .uninit → s.session.cfgOk = false →
    exec .nextEvent s = .next { s with session := { s.session with eventValid := false, cmdErr := true } }

/-- In EXHAUSTED or ABORTED, not BUSY, NEXT_EVENT clears EVENT_VALID and changes nothing else: no open and no read. (44_host_commands.md R187, 60_exceptions.md R219, 95_test_vectors.md ST11) -/
def Obligations.NextEventInTerminalState : Prop :=
  ∀ s : State, s.busy = false → (s.session.phase = .exhausted ∨ s.session.phase = .aborted) →
    exec .nextEvent s = .next { s with session := { s.session with eventValid := false } }

/-- In a started session with the source not open, not BUSY, when SrcOpen answers false: STATE = EXHAUSTED, CAUSE = 4, SUBCAUSE = 1, EVENT_VALID = 0, one open request and no read; nothing else changes. (40_frame_reader.md R103, 60_exceptions.md R215, 44_host_commands.md R187) -/
def Obligations.NextEventOpenFails : Prop :=
  ∀ s : State, s.busy = false → s.eventReady = true → s.session.srcOpen = false → s.openAnswer = false →
    exec .nextEvent s = .next
      { s with
        openDraws := s.openDraws.tail
        srcLog := s.srcLog ++ [.srcOpen]
        session := { s.session with phase := .exhausted, cause := .ioError, errInfo := ⟨1, 0⟩,
                                    eventValid := false } }

/-- In a started session whose source is or can be opened, not BUSY, when frame EC would end past byte L or past 2^64: STATE = EXHAUSTED, CAUSE = 3, ERR_INFO = 0, EVENT_VALID = 0, SRC_OPEN = 1, whatever the I/O draw; EC, FB, the sink and all else are unchanged. (20_memory.md R64, 40_frame_reader.md R104, 40_frame_reader.md R105, 40_frame_reader.md R109, 60_exceptions.md R214) -/
def Obligations.NextEventStreamEnd : Prop :=
  ∀ s : State, s.busy = false → s.eventReady = true → s.canOpen = true → s.frameInSource = false →
    exec .nextEvent s = .next
      { s with
        openDraws := if s.session.srcOpen then s.openDraws else s.openDraws.tail
        srcLog := s.srcLog ++ s.eventRequests
        session := { s.session with phase := .exhausted, cause := .streamEnd, errInfo := ⟨0, 0⟩,
                                    eventValid := false, srcOpen := true } }

/-- In a started session whose source is or can be opened, not BUSY, when frame EC lies in the source and the read's draw is an I/O error: STATE = EXHAUSTED, CAUSE = 4, SUBCAUSE = 2, EVENT_VALID = 0, SRC_OPEN = 1; EC, FB, the sink and all else are unchanged. (20_memory.md R64, 40_frame_reader.md R104, 40_frame_reader.md R109, 60_exceptions.md R215) -/
def Obligations.NextEventReadFails : Prop :=
  ∀ s : State, s.busy = false → s.eventReady = true → s.canOpen = true → s.frameInSource = true →
    s.readFails = true →
    exec .nextEvent s = .next
      { s with
        openDraws := if s.session.srcOpen then s.openDraws else s.openDraws.tail
        ioErrDraws := s.ioErrDraws.tail
        srcLog := s.srcLog ++ s.eventRequests
        session := { s.session with phase := .exhausted, cause := .ioError, errInfo := ⟨2, 0⟩,
                                    eventValid := false, srcOpen := true } }

/-- In a started session, when frame EC can be read and the records made of its source bytes (bit 15-j of sample i of plane k is bit pos(m,k) of the little-endian word at byte EC*4*WPE + 4*(1+16*i+j); ids by the map, 0 where unmapped) are all valid, NEXT_EVENT appends the one collection with OUTPUT_KEY, EC and those records in ascending plane order to the sink, advances EC by 1, and sets READING, EVENT_VALID and SRC_OPEN; the registers, flags and surroundings not named are unchanged. (40_frame_reader.md R101, 20_memory.md R61, 42_bitplane_demux.md R142, 43_channel_mapper.md R161, 43_channel_mapper.md R163, 43_channel_mapper.md R166, 43_channel_mapper.md R167, 44_host_commands.md R187) -/
def Obligations.NextEventEmitsTheFrame : Prop :=
  ∀ (s : State) (recs : List ChipRecord), s.SessionInv → s.DataInv → s.eventReady = true → s.canOpen = true →
    s.frameInSource = true → s.readFails = false → recs.length = popcount s.session.activeMask →
    (∀ (k : Nat) (h : k < recs.length), s.IsFrameRecord k recs[k]) →
    (∀ r ∈ recs, s.params.recordCheck.valid s.cpc r = true) →
    ∃ t, exec .nextEvent s = .next t ∧
      t.sink = s.sink ++ [⟨s.cfg.outputKey, s.session.ec, recs⟩] ∧
      t.session.ec.toNat = s.session.ec.toNat + 1 ∧ t.session.phase = .reading ∧
      t.session.eventValid = true ∧ t.session.srcOpen = true ∧ t.srcLog = s.srcLog ++ s.eventRequests ∧
      t.session.cause = s.session.cause ∧ t.session.errInfo = s.session.errInfo ∧
      t.session.cmdErr = s.session.cmdErr ∧ t.session.cfgOk = s.session.cfgOk ∧
      t.session.activeMask = s.session.activeMask ∧ t.cfg = s.cfg ∧ t.params = s.params ∧
      t.platform = s.platform ∧ t.busy = s.busy ∧ t.inbox = s.inbox ∧ t.results = s.results ∧
      t.openDraws = (if s.session.srcOpen then s.openDraws else s.openDraws.tail) ∧
      t.ioErrDraws = s.ioErrDraws.tail

/-- As for the emitting case, but with some record invalid: with k the first plane, in ascending order, whose record fails, NEXT_EVENT gives STATE = ABORTED, CAUSE = 5, PLANE = k, SUBCAUSE = 0 and EVENT_VALID = 0; the sink, EC, the registers and the other flags are unchanged. (43_channel_mapper.md R164, 43_channel_mapper.md R165, 60_exceptions.md R216, 60_exceptions.md R220) -/
def Obligations.NextEventRejectsFirstInvalid : Prop :=
  ∀ (s : State) (recs : List ChipRecord) (k : Nat), s.SessionInv → s.DataInv → s.eventReady = true →
    s.canOpen = true → s.frameInSource = true → s.readFails = false →
    recs.length = popcount s.session.activeMask →
    (∀ (k' : Nat) (h : k' < recs.length), s.IsFrameRecord k' recs[k']) →
    (∀ (k' : Nat) (h : k' < recs.length), k' < k → s.params.recordCheck.valid s.cpc recs[k'] = true) →
    (∃ h : k < recs.length, s.params.recordCheck.valid s.cpc recs[k] = false) →
    ∃ t, exec .nextEvent s = .next t ∧ t.session.phase = .aborted ∧ t.session.cause = .recordValidation ∧
      t.session.errInfo.subcause = 0 ∧ t.session.errInfo.plane.toNat = k ∧ t.session.eventValid = false ∧
      t.sink = s.sink ∧ t.session.ec = s.session.ec ∧ t.session.srcOpen = true ∧
      t.srcLog = s.srcLog ++ s.eventRequests ∧ t.session.cmdErr = s.session.cmdErr ∧
      t.session.cfgOk = s.session.cfgOk ∧ t.session.activeMask = s.session.activeMask ∧ t.cfg = s.cfg ∧
      t.params = s.params ∧ t.platform = s.platform ∧ t.busy = s.busy ∧ t.inbox = s.inbox ∧
      t.results = s.results

/-- From every state NEXT_EVENT answers a next state in which the configuration registers, CFG_OK, ACTIVE_MASK, BUSY, the parameters, the surroundings with every source byte, the pending events, the read results and the earlier sink history are unchanged; so are FB words at or above WPE, SM planes from P on, and G entries outside k < P, c < CPC; CMD_ERR is unchanged unless the session is not started or BUSY is set. (10_state.md R45, 10_state.md R46, 10_state.md R47, 60_exceptions.md R210, 44_host_commands.md R187) -/
def Obligations.NextEventFrame : Prop :=
  ∀ s : State, ∃ t, exec .nextEvent s = .next t ∧
    t.cfg = s.cfg ∧ t.session.cfgOk = s.session.cfgOk ∧ t.session.activeMask = s.session.activeMask ∧
    t.busy = s.busy ∧ t.params = s.params ∧ t.platform = s.platform ∧ t.inbox = s.inbox ∧
    t.results = s.results ∧ (∃ l, t.sink = s.sink ++ l) ∧
    (∀ a, Memory.read t.platform.srcBytes a = Memory.read s.platform.srcBytes a) ∧
    (∀ n, s.wpe ≤ n → Memory.read t.session.fb n = Memory.read s.session.fb n) ∧
    (∀ k i, (s.planes ≤ k ∨ Config.nSamples ≤ i) →
      Memory.read (planeAt t.session.sm k) i = Memory.read (planeAt s.session.sm k) i) ∧
    (∀ k c, (s.planes ≤ k ∨ s.cpc ≤ c) →
      Memory.read (planeAt t.session.geom k) c = Memory.read (planeAt s.session.geom k) c) ∧
    (t.session.cmdErr = s.session.cmdErr ∨ s.busy = true ∨
      (s.session.phase = .uninit ∧ s.session.cfgOk = false))

/-- Loading a frame's bytes b writes each whole 4-byte block as one word in frame order: FB[n] = b[4n+3]*2^24 + b[4n+2]*2^16 + b[4n+1]*2^8 + b[4n]; words past the last block are unchanged. (R106, R61) -/
def Obligations.NormalizationByteOrder : Prop :=
  ∀ (s : State) (b : List Byte) (n : Nat),
    (4 * n + 3 < b.length →
      (Memory.read (s.loadFrame b).session.fb n).toNat =
        (b.getD (4 * n + 3) 0).toNat * 2 ^ 24 + (b.getD (4 * n + 2) 0).toNat * 2 ^ 16
          + (b.getD (4 * n + 1) 0).toNat * 2 ^ 8 + (b.getD (4 * n) 0).toNat) ∧
    (b.length ≤ 4 * n + 3 → Memory.read (s.loadFrame b).session.fb n = Memory.read s.session.fb n)

/-- After Demux, for every active plane k, every sample i and every j in 0..15, bit 15-j of SM[k][i] is bit pos(m, k) of FB[1 + 16*i + j]; planes from P on are unchanged and no other state is. (R142) -/
def Obligations.DemuxBitRule : Prop :=
  ∀ s : State, s.session.sm.length = 32 →
    (∀ k < popcount s.session.activeMask, ∀ i < 1924, ∀ j < 16,
      (Memory.read (planeAt s.demuxFrame.session.sm k) i).getLsbD (15 - j) =
        (Memory.read s.session.fb (1 + 16 * i + j)).getLsbD (pos s.session.activeMask k)) ∧
    (∀ k, popcount s.session.activeMask ≤ k → planeAt s.demuxFrame.session.sm k = planeAt s.session.sm k) ∧
    s.demuxFrame = { s with session := { s.session with sm := s.demuxFrame.session.sm } }

/-- The result has exactly popcount(m) arrays of 1924 samples, and array k is that of the bit-line at pos(m, k), positions ascending with k. (R144) -/
def Obligations.DemuxOutputShape : Prop :=
  ∀ (fb : Memory Word) (m : Word), (demux fb m).length = popcount m ∧
    (∀ k < popcount m, ((demux fb m).getD k []).length = 1924 ∧
      (demux fb m).getD k [] = demuxPlane fb (pos m k)) ∧
    ∀ k k', k < k' → k' < popcount m → pos m k < pos m k'

/-- Two frames that agree on the bits at the mask's positions of the words 1..30784 have the same samples, whatever their header, their words from 30785 on and their other bits are. (R145) -/
def Obligations.DemuxIgnoresOtherBits : Prop :=
  ∀ (fb fb' : Memory Word) (m : Word),
    (∀ n, 1 ≤ n → n ≤ 30784 → ∀ p < 32, m.getLsbD p = true →
      (fb.read n).getLsbD p = (fb'.read n).getLsbD p) →
    demux fb m = demux fb' m

/-- For every mask m and every list S of popcount(m) arrays of 1924 samples, every frame that is an Enc(S, m) in the sense of R147 demultiplexes to S, and the model's enc(S, m) is such a frame. (R147) -/
def Obligations.DemuxRoundTrip : Prop :=
  ∀ (S : List (List Sample)) (m : Word), S.length = popcount m → (∀ a ∈ S, a.length = 1924) →
    IsEnc (enc S m) S m ∧ ∀ fb : Memory Word, IsEnc fb S m → demux fb m = S

/-- Every (i, j) with i < 1924 and j < 16 has off(i, j) = 1 + 16*i + j in 1..30784, and every n in 1..30784 is off(i, j) for exactly one such pair. (R141) -/
def Obligations.WordOffsetsBijection : Prop :=
  (∀ i < 1924, ∀ j < 16, wordOffset i j = 1 + 16 * i + j ∧ 1 ≤ wordOffset i j ∧ wordOffset i j ≤ 30784) ∧
  (∀ n, 1 ≤ n → n ≤ 30784 → ∃ i j, (i < 1924 ∧ j < 16 ∧ wordOffset i j = n) ∧
    ∀ i' j', i' < 1924 → j' < 16 → wordOffset i' j' = n → i' = i ∧ j' = j) ∧
  ∀ s : State, s.SessionInv → s.session.cfgOk = true → ∀ i < 1924, ∀ j < 16, wordOffset i j < s.wpe

/-- After the mapping pass, G[k][c] is the id Map gives for (k, c), a mapped 0 included, and 0 where Map gives none, for every k < P and c < CPC; no other entry of G and no other state changes, and no flag is set. (R161, R162, R168) -/
def Obligations.LookupsFillG : Prop :=
  ∀ s : State, s.session.geom.length = 32 →
    (∀ k < popcount s.session.activeMask, ∀ c < s.cfg.channelsPerChip.toNat,
      Memory.read (planeAt s.mapChannels.session.geom k) c =
        match mapLookup s.platform.map k c with
        | none => 0
        | some v => v) ∧
    (∀ k c, (popcount s.session.activeMask ≤ k ∨ s.cfg.channelsPerChip.toNat ≤ c) →
      Memory.read (planeAt s.mapChannels.session.geom k) c = Memory.read (planeAt s.session.geom k) c) ∧
    s.mapChannels = { s with session := { s.session with geom := s.mapChannels.session.geom } }

/-- With CHANNELS_PER_CHIP = 64 the record of 1924 zero samples and 64 zero ids is valid under every check, the free one included; under COUNTS_OK every record the assembler forms is valid, so no plane fails, in any state. (43_channel_mapper.md R164, 95_test_vectors.md CM7) -/
def Obligations.RecordCheckObeysLaw : Prop :=
  (∀ check : RecordCheck,
    check.valid 64 ⟨List.replicate 1924 0, List.replicate 64 0⟩ = true) ∧
  ∀ s : State, s.params.recordCheck = .countsOk → s.firstInvalid = none

/-- In every state that is not BUSY, SESSION_RESET gives UNINIT, CFG_OK, EVENT_VALID, CMD_ERR and SRC_OPEN 0, CAUSE NONE, ERR_INFO 0, EC 0 and ACTIVE_MASK 0, and keeps the configuration registers, the sink history, the source, the map and all else. (R188) -/
def Obligations.SessionResetStartsNewSession : Prop :=
  ∀ s : State, s.busy = false → ∃ t, exec .sessionReset s = .next t ∧
    t.session.phase = .uninit ∧ t.session.cfgOk = false ∧ t.session.eventValid = false ∧
    t.session.cmdErr = false ∧ t.session.cause = .none ∧ t.session.errInfo = ⟨0, 0⟩ ∧ t.session.ec = 0 ∧
    t.session.activeMask = 0 ∧ t.session.srcOpen = false ∧ t = { s with session := t.session }

/-- A step on the reset input gives the values of R240's table, in every state, and leaves the parameters, the surroundings, the sink history and the records of reads and requests unchanged; RD STATUS then answers map_ready << 7. State.reset has the same values. That it leaves the parameters, the surroundings, the sink and the records alone, and lands as an event of the inbox, is the model's choice (log entries 13 and 15). (FB, SM and G, which R240 leaves unspecified, are not named.) (70_reset_and_hazards.md R240) -/
def Obligations.ResetInputValues : Prop :=
  (∀ (s : State) (rest : List HostEvent), s.inbox = .resetInput :: rest → ∃ t, step s = .next t ∧
    t = { s with inbox := rest, cfg := ⟨0, 30788, 64, 0, 0, 0⟩, busy := false, session := t.session } ∧
    (t.session.phase = .uninit ∧ t.session.cfgOk = false ∧ t.session.eventValid = false ∧
      t.session.cmdErr = false ∧ t.session.cause = .none ∧ t.session.errInfo = ⟨0, 0⟩ ∧ t.session.ec = 0 ∧
      t.session.activeMask = 0 ∧ t.session.srcOpen = false) ∧
    exec .rdStatus t = .next { t with results := t.results ++ [if s.platform.mapReady then 0x00000080 else 0] } ∧
    exec .rdActivePlanes t = .next { t with results := t.results ++ [0] }) ∧
  State.reset.cfg = ⟨0, 30788, 64, 0, 0, 0⟩ ∧ State.reset.busy = false ∧ State.reset.session.phase = .uninit ∧
  State.reset.session.cfgOk = false ∧ State.reset.session.eventValid = false ∧
  State.reset.session.cmdErr = false ∧ State.reset.session.cause = .none ∧
  State.reset.session.errInfo = ⟨0, 0⟩ ∧ State.reset.session.ec = 0 ∧ State.reset.session.activeMask = 0 ∧
  State.reset.session.srcOpen = false

/-- From EXHAUSTED or ABORTED, a step on any transaction but the SESSION_RESET word changes at most EVENT_VALID (to 0), CMD_ERR (to 1), the read results and the pending events; SESSION_RESET (not BUSY) and the reset input lead to UNINIT. That an attach event has no next state there is the model's choice (DESIGN CHOICE, log entry 14). (60_exceptions.md R219, 60_exceptions.md R221, 70_reset_and_hazards.md R247) -/
def Obligations.TerminalStateIsFinal : Prop :=
  ∀ (s t : State) (e : HostEvent) (rest : List HostEvent),
    (s.session.phase = .exhausted ∨ s.session.phase = .aborted) → s.inbox = e :: rest → step s = .next t →
    (∀ w, e = .transaction w → w ≠ sresetWord →
      (t.session.eventValid = s.session.eventValid ∨ t.session.eventValid = false) ∧
      (t.session.cmdErr = s.session.cmdErr ∨ t.session.cmdErr = true) ∧
      t = { s with inbox := rest, results := t.results,
                   session := { s.session with eventValid := t.session.eventValid,
                                               cmdErr := t.session.cmdErr } }) ∧
    (e = .transaction sresetWord → s.busy = false → t.session.phase = .uninit) ∧
    (e = .resetInput → t.session.phase = .uninit) ∧ (∀ p, e ≠ .attach p)

/-- If the session state is coherent (BUSY 0, STATE not OPEN, CAUSE and ERR_INFO fitting STATE, a legal configuration and its own mask whenever CFG_OK, no mask, EC or open source otherwise, EC = 0 before the first frame, EC at least 1 and the source open in READING, EVENT_VALID only in READING, every produced frame inside the source) then so is the state after any step. (10_state.md R23, 10_state.md R24, 10_state.md R25, 10_state.md R29, 10_state.md R31, 10_state.md R32, 10_state.md R33, 10_state.md R44, 60_exceptions.md R211, 60_exceptions.md R221) -/
def Obligations.StepKeepsSessionInv : Prop :=
  ∀ s t : State, s.SessionInv → step s = .next t → t.SessionInv

/-- If the session state is coherent and the source bytes, FB, SM and G are in canonical form within WPE_MAX words, 32 planes of 1924 samples and 32 rows of CPC_MAX ids of GEOM_W bits, then the same holds after any step. (10_state.md R45, 10_state.md R46, 10_state.md R47, 00_scope.md R6) -/
def Obligations.StepKeepsDataInv : Prop :=
  ∀ s t : State, s.SessionInv → s.DataInv → step s = .next t → t.DataInv

/-- If every collection delivered so far has 4*b records for some b in 1..8, each with 1924 samples and the same number in 1..CPC_MAX of ids of GEOM_W bits, then so has every collection after any step from a coherent state. (43_channel_mapper.md R163, 43_channel_mapper.md R166, 41_mask_and_config.md R122) -/
def Obligations.StepKeepsSinkShape : Prop :=
  ∀ s t : State, s.SessionInv → s.DataInv → s.SinkInv → step s = .next t → t.SinkInv

/-- State.reset, with the model's default parameters and surroundings (log entries 6 to 10), meets the three invariants. (70_reset_and_hazards.md R240) -/
def Obligations.ResetMeetsInvariants : Prop :=
  State.reset.SessionInv ∧ State.reset.DataInv ∧ State.reset.SinkInv

/-- In every coherent state EC is below 2^48, so it never wraps; and a coherent state whose configuration is validated has EC at most L / frameSize. (10_state.md R32, 20_memory.md R64) -/
def Obligations.EventCounterNeverWraps : Prop :=
  ∀ s : State, s.SessionInv → s.session.ec.toNat < 2 ^ 48 ∧
    (s.session.cfgOk = true → s.session.ec.toNat ≤ s.platform.srcLen / s.frameSize)

/-- A step from a state that is not CFG_WRITABLE leaves all six configuration registers unchanged unless it takes the reset input. (10_state.md R43, 44_host_commands.md R183, 44_host_commands.md R188) -/
def Obligations.ConfigLockedInSession : Prop :=
  ∀ s t : State, step s = .next t → ¬ (s.session.phase = .uninit ∧ s.session.cfgOk = false) →
    t.cfg = s.cfg ∨ s.inbox.head? = some .resetInput

/-- A step from a state with CMD_ERR = 1 leaves it 1 unless it executes the SESSION_RESET word or takes the reset input. (10_state.md R26) -/
def Obligations.CmdErrIsSticky : Prop :=
  ∀ s t : State, step s = .next t → s.session.cmdErr = true →
    t.session.cmdErr = true ∨ s.inbox.head? = some .resetInput ∨
      s.inbox.head? = some (.transaction sresetWord)

/-- A step either leaves the sink as it was and EC as it was, or 0 when it executes the SESSION_RESET word or takes the reset input, or executes NEXT_EVENT, appends one collection with OUTPUT_KEY and the old EC, advances EC by 1 and sets READING and EVENT_VALID. (43_channel_mapper.md R166, 43_channel_mapper.md R167, 10_state.md R48, 10_state.md R32) -/
def Obligations.EventEmittedOncePerCount : Prop :=
  ∀ s t : State, step s = .next t →
    (t.sink = s.sink ∧ (t.session.ec = s.session.ec ∨ (t.session.ec = 0 ∧
      (s.inbox.head? = some (.transaction sresetWord) ∨ s.inbox.head? = some .resetInput)))) ∨
    ∃ c, s.inbox.head? = some (.transaction nextWord) ∧ t.sink = s.sink ++ [c] ∧ c.event = s.session.ec ∧
      c.key = s.cfg.outputKey ∧ t.session.ec = s.session.ec + 1 ∧ t.session.phase = .reading ∧
      t.session.eventValid = true

/-- A step from a coherent state issues no source request unless it executes NEXT_EVENT in a started session. A step that does issues exactly one open when the source is not open and none when it is; if that open fails it issues nothing more and ends in EXHAUSTED with the source not open; otherwise it issues exactly one read, of frame EC, and the source is open after it. (40_frame_reader.md R103, 40_frame_reader.md R104, 20_memory.md R64, 20_memory.md R65) -/
def Obligations.SourceRequestsOnlyByNextEvent : Prop :=
  ∀ s t : State, s.SessionInv → step s = .next t →
    (¬ (s.inbox.head? = some (.transaction nextWord) ∧ s.eventReady = true) → t.srcLog = s.srcLog) ∧
    (s.inbox.head? = some (.transaction nextWord) → s.eventReady = true →
      (s.session.srcOpen = false → s.openAnswer = false →
        t.srcLog = s.srcLog ++ [.srcOpen] ∧ t.session.phase = .exhausted ∧ t.session.srcOpen = false) ∧
      (s.canOpen = true → t.srcLog = s.srcLog ++ s.eventRequests ∧ t.session.srcOpen = true))

/-- Every step keeps the parameters, and keeps the source content, its length, the map and map_ready unless it takes an attach event while CFG_WRITABLE. R74 and R226 make this a duty of the host: the attach event and its refusal outside CFG_WRITABLE are the model's choice (DESIGN CHOICE, log entry 14). (20_memory.md R74, 10_state.md R48, 60_exceptions.md R226) -/
def Obligations.PlatformConstantInSession : Prop :=
  ∀ s t : State, step s = .next t → t.params = s.params ∧
    (t.platform = s.platform ∨
      ∃ p, s.inbox.head? = some (.attach p) ∧ s.session.phase = .uninit ∧ s.session.cfgOk = false ∧
        t.platform = p)

/-- From every coherent state of a started session, some number n of NEXT_EVENT commands, at most floor(L / frameSize) + 1, run one a step with nothing else pending, ends in EXHAUSTED or ABORTED, whatever the source's draws and the record check are. (70_reset_and_hazards.md R246, 40_frame_reader.md R104, 43_channel_mapper.md R167) -/
def Obligations.FiniteSourceEndsTheRun : Prop :=
  ∀ s : State, s.SessionInv → s.eventReady = true →
    ∃ n ≤ s.platform.srcLen / s.frameSize + 1, ∃ t : State,
      Host.Core.run Sys2Proof.core n { s with inbox := List.replicate n (.transaction nextWord) } = .next t ∧
        t.finished = true

/-- For every instruction but the reads and writes of the two registers, running it with other values in them gives the same next state but for those values. (10_state.md R38, 10_state.md R39) -/
def Obligations.HexaboardRegistersUnused : Prop :=
  ∀ (i : Instr) (s t : State) (h c : Word), i ≠ .rdHexaboardCount → i ≠ .rdChipsPerHexaboard →
    (∀ v, i ≠ .wrHexaboardCount v) → (∀ v, i ≠ .wrChipsPerHexaboard v) → exec i s = .next t →
    exec i { s with cfg := { s.cfg with hexaboardCount := h, chipsPerHexaboard := c } } =
      .next { t with cfg := { t.cfg with hexaboardCount := h, chipsPerHexaboard := c } }

/-- Two states that differ only in source bytes outside the words 1..30784 of frame EC give, under NEXT_EVENT, the same sink history, STATUS, ERR_INFO, EC and source requests. (40_frame_reader.md R107, 42_bitplane_demux.md R145, 70_reset_and_hazards.md R247) -/
def Obligations.HeaderAndMarginIgnored : Prop :=
  ∀ (s : State) (bytes : List Host.Cell),
    (∀ a, s.frameOffset + 4 ≤ a → a < s.frameOffset + 4 * 30785 →
      Memory.read bytes a = Memory.read s.platform.srcBytes a) →
    ∃ t t', exec .nextEvent s = .next t ∧
      exec .nextEvent { s with platform := { s.platform with srcBytes := bytes } } = .next t' ∧
      t'.observe = t.observe
end

