-- ==== Sys2Proof/Laws/Memory.lean ====
section
/-! SUPPORT. What the indexed data of `Machine/Ops.lean` does: a write of a run gives the values written, leaves every other
index alone and keeps the canonical form. -/

namespace Sys2Proof.Machine

section
variable {α : Type} [OfNat α 0]

@[simp] theorem Memory.read_nil (a : Nat) : Memory.read ([] : Memory α) a = 0 := rfl

theorem Memory.read_cons (k : Nat) (v : α) (rest : Memory α) (a : Nat) :
    Memory.read ((k, v) :: rest) a = if k = a then v else Memory.read rest a := rfl

/-- An index no cell lists reads 0. -/
theorem Memory.read_eq_zero (m : Memory α) (a : Nat) (h : ∀ e ∈ m, e.1 ≠ a) : m.read a = 0 := by
  induction m with
  | nil => rfl
  | cons e rest ih =>
    obtain ⟨k, v⟩ := e
    have hk : k ≠ a := h (k, v) (by simp)
    rw [Memory.read_cons, if_neg hk]
    exact ih fun e he => h e (by simp [he])

/-- Reading past cells that do not list the index. -/
theorem Memory.read_append (m n : Memory α) (a : Nat) (h : ∀ e ∈ m, e.1 ≠ a) :
    Memory.read (m ++ n) a = n.read a := by
  induction m with
  | nil => rfl
  | cons e rest ih =>
    obtain ⟨k, v⟩ := e
    have hk : k ≠ a := h (k, v) (by simp)
    rw [List.cons_append, Memory.read_cons, if_neg hk]
    exact ih fun e he => h e (by simp [he])

/-- Cells after a list that do not list the index do not matter. -/
theorem Memory.read_append_left (m n : Memory α) (a : Nat) (h : ∀ e ∈ n, e.1 ≠ a) :
    Memory.read (m ++ n) a = m.read a := by
  induction m with
  | nil => exact Memory.read_eq_zero n a h
  | cons e rest ih =>
    obtain ⟨k, v⟩ := e
    rw [List.cons_append, Memory.read_cons, Memory.read_cons, ih]

/-- A filter by index that keeps the index does not change what it reads. -/
theorem Memory.read_filter (m : Memory α) (p : Nat → Bool) (a : Nat) (h : p a = true) :
    Memory.read (m.filter fun e => p e.1) a = m.read a := by
  induction m with
  | nil => rfl
  | cons e rest ih =>
    obtain ⟨k, v⟩ := e
    by_cases hk : k = a
    · subst hk; simp [h, Memory.read_cons]
    · by_cases hp : p k
      · simp [hp, Memory.read_cons, hk, ih]
      · simp [hp, Memory.read_cons, hk, ih]

@[simp] theorem Memory.length_readRange (m : Memory α) (base n : Nat) : (m.readRange base n).length = n := by
  simp [Memory.readRange]

theorem Memory.getD_readRange (m : Memory α) (base n i : Nat) (h : i < n) :
    (m.readRange base n).getD i 0 = m.read (base + i) := by
  simp [Memory.readRange, h]

variable [DecidableEq α]

/-- The indices of a block are those of the run. -/
theorem Memory.block_range (base : Nat) (vs : List α) :
    ∀ e ∈ Memory.block base vs, base ≤ e.1 ∧ e.1 < base + vs.length := by
  induction vs generalizing base with
  | nil => simp [Memory.block]
  | cons v vs ih =>
    intro e he
    by_cases hv : v = 0
    · simp only [Memory.block, hv, if_true] at he
      have := ih (base + 1) e he
      simp only [List.length_cons]; omega
    · simp only [Memory.block, hv, if_false, List.mem_cons] at he
      rcases he with rfl | he
      · simp
      · have := ih (base + 1) e he
        simp only [List.length_cons]; omega

theorem Memory.read_block (base : Nat) (vs : List α) (i : Nat) (h : i < vs.length) :
    Memory.read (Memory.block base vs) (base + i) = vs.getD i 0 := by
  induction vs generalizing base i with
  | nil => simp at h
  | cons v vs ih =>
    cases i with
    | zero =>
      by_cases hv : v = 0
      · simp only [Memory.block, hv, if_true, Nat.add_zero, List.getD_cons_zero]
        exact Memory.read_eq_zero _ _ fun e he => by
          have := Memory.block_range (base + 1) vs e he; omega
      · simp [Memory.block, hv, Memory.read_cons]
    | succ i =>
      have h' : i < vs.length := by simpa using h
      have hb : base + (i + 1) = base + 1 + i := by omega
      by_cases hv : v = 0
      · simp only [Memory.block, hv, if_true, List.getD_cons_succ, hb]
        exact ih (base + 1) i h'
      · have hne : ¬ base = base + 1 + i := by omega
        simp only [Memory.block, hv, if_false, List.getD_cons_succ, hb, Memory.read_cons, hne]
        exact ih (base + 1) i h'

/-- What a write of a run does, index by index. -/
theorem Memory.read_writeRange (m : Memory α) (base : Nat) (vs : List α) (a : Nat) :
    (m.writeRange base vs).read a =
      if base ≤ a ∧ a < base + vs.length then vs.getD (a - base) 0 else m.read a := by
  unfold Memory.writeRange
  by_cases h1 : a < base
  · rw [if_neg (by omega), Memory.read_append_left, Memory.read_append_left,
      Memory.read_filter m (fun k => decide (k < base)) a (by simp [h1])]
    · intro e he; have := Memory.block_range base vs e he; omega
    · intro e he; simp only [List.mem_filter, decide_eq_true_eq] at he; omega
  · by_cases h2 : a < base + vs.length
    · rw [if_pos ⟨by omega, h2⟩, Memory.read_append_left, Memory.read_append]
      · have := Memory.read_block base vs (a - base) (by omega)
        rwa [Nat.add_sub_cancel' (by omega)] at this
      · intro e he; simp only [List.mem_filter, decide_eq_true_eq] at he; omega
      · intro e he; simp only [List.mem_filter, decide_eq_true_eq] at he; omega
    · rw [if_neg (by omega), Memory.read_append,
        Memory.read_filter m (fun k => decide (base + vs.length ≤ k)) a (by simp; omega)]
      intro e he
      simp only [List.mem_append, List.mem_filter, decide_eq_true_eq] at he
      rcases he with he | he
      · omega
      · have := Memory.block_range base vs e he; omega

theorem Memory.wf_cons (k : Nat) (v : α) (rest : Memory α) :
    Memory.wf ((k, v) :: rest) = true ↔ v ≠ 0 ∧ (∀ e ∈ rest, k < e.1) ∧ Memory.wf rest = true := by
  simp [Memory.wf, and_assoc]

theorem Memory.wf_filter (m : Memory α) (p : Nat × α → Bool) (h : m.wf = true) : Memory.wf (m.filter p) = true := by
  induction m with
  | nil => rfl
  | cons e rest ih =>
    obtain ⟨k, v⟩ := e
    obtain ⟨h1, h2, h3⟩ := (Memory.wf_cons k v rest).1 h
    by_cases hp : p (k, v)
    · rw [List.filter_cons_of_pos hp]
      exact (Memory.wf_cons _ _ _).2 ⟨h1, fun e he => h2 e (List.mem_of_mem_filter he), ih h3⟩
    · rw [List.filter_cons_of_neg hp]; exact ih h3

theorem Memory.wf_block (base : Nat) (vs : List α) : Memory.wf (Memory.block base vs) = true := by
  induction vs generalizing base with
  | nil => rfl
  | cons v vs ih =>
    by_cases hv : v = 0
    · simp only [Memory.block, hv, if_true]; exact ih _
    · simp only [Memory.block, hv, if_false]
      exact (Memory.wf_cons _ _ _).2
        ⟨hv, fun e he => by have := Memory.block_range (base + 1) vs e he; omega, ih _⟩

theorem Memory.wf_append (m n : Memory α) (hm : m.wf = true) (hn : n.wf = true)
    (h : ∀ e ∈ m, ∀ f ∈ n, e.1 < f.1) : Memory.wf (m ++ n) = true := by
  induction m with
  | nil => exact hn
  | cons e rest ih =>
    obtain ⟨k, v⟩ := e
    obtain ⟨h1, h2, h3⟩ := (Memory.wf_cons k v rest).1 hm
    rw [List.cons_append]
    refine (Memory.wf_cons _ _ _).2 ⟨h1, ?_, ih h3 fun e he => h e (by simp [he])⟩
    intro f hf
    rcases List.mem_append.1 hf with hf | hf
    · exact h2 f hf
    · exact h (k, v) (by simp) f hf

/-- Every write keeps the canonical form. -/
theorem Memory.wf_writeRange (m : Memory α) (base : Nat) (vs : List α) (h : m.wf = true) :
    (m.writeRange base vs).wf = true := by
  unfold Memory.writeRange
  apply Memory.wf_append _ _ (Memory.wf_append _ _ (Memory.wf_filter _ _ h) (Memory.wf_block _ _) _)
    (Memory.wf_filter _ _ h)
  · intro e he f hf
    simp only [List.mem_append, List.mem_filter, decide_eq_true_eq] at he hf
    rcases he with he | he
    · omega
    · have := Memory.block_range base vs e he; omega
  · intro e he f hf
    simp only [List.mem_filter, decide_eq_true_eq] at he
    have := Memory.block_range base vs f hf; omega

/-- A write inside a bound keeps the bound. -/
theorem Memory.below_writeRange (m : Memory α) (base : Nat) (vs : List α) (bound : Nat)
    (h : m.below bound = true) (hv : base + vs.length ≤ bound) : (m.writeRange base vs).below bound = true := by
  simp only [Memory.below, Memory.writeRange, List.all_eq_true, decide_eq_true_eq] at h ⊢
  intro e he
  simp only [List.mem_append, List.mem_filter, decide_eq_true_eq] at he
  rcases he with (he | he) | he
  · exact h e he.1
  · have := Memory.block_range base vs e he; omega
  · exact h e he.1

/-- Reading back a run that has just been written. -/
theorem Memory.readRange_writeRange (m : Memory α) (base : Nat) (vs : List α) :
    (m.writeRange base vs).readRange base vs.length = vs := by
  apply List.ext_getElem (by simp)
  intro i h1 h2
  have hi : i < vs.length := h2
  have h := Memory.getD_readRange (m.writeRange base vs) base vs.length i hi
  rw [Memory.read_writeRange, if_pos (by omega), Nat.add_sub_cancel_left] at h
  simpa [List.getD_eq_getElem?_getD, List.getElem?_eq_getElem h1, List.getElem?_eq_getElem hi] using h

@[simp] theorem length_writePlanes (ms : List (Memory α)) (rows : List (List α)) :
    (writePlanes ms rows).length = ms.length := by
  induction ms generalizing rows with
  | nil => cases rows <;> rfl
  | cons m ms ih =>
    cases rows with
    | nil => rfl
    | cons r rows => simp [writePlanes, ih]

/-- What a write of rows does, plane by plane. -/
theorem planeAt_writePlanes (ms : List (Memory α)) (rows : List (List α)) (k : Nat) (hk : k < ms.length) :
    planeAt (writePlanes ms rows) k =
      if h : k < rows.length then (planeAt ms k).writeRange 0 rows[k] else planeAt ms k := by
  induction ms generalizing rows k with
  | nil => simp at hk
  | cons m ms ih =>
    cases rows with
    | nil => simp [writePlanes]
    | cons r rows =>
      cases k with
      | zero => simp [writePlanes, planeAt]
      | succ k =>
        have := ih rows k (by simpa using hk)
        simpa [writePlanes, planeAt] using this

theorem mem_writePlanes (P : Memory α → Prop) (ms : List (Memory α)) (rows : List (List α))
    (h : ∀ m ∈ ms, P m) (hw : ∀ m, P m → ∀ r ∈ rows, P (m.writeRange 0 r)) :
    ∀ m ∈ writePlanes ms rows, P m := by
  induction ms generalizing rows with
  | nil => cases rows <;> simp [writePlanes]
  | cons m ms ih =>
    cases rows with
    | nil => simpa [writePlanes] using h
    | cons r rows =>
      intro x hx
      simp only [writePlanes, List.mem_cons] at hx
      rcases hx with rfl | hx
      · exact hw m (h m (by simp)) r (by simp)
      · exact ih rows (fun m hm => h m (by simp [hm])) (fun m hm r hr => hw m hm r (by simp [hr])) x hx

end

/-- Canonical memories that read the same are the same data. -/
theorem Memory.ext_of_wf {α : Type} [OfNat α 0] [DecidableEq α] (m n : Memory α) (hm : m.wf = true)
    (hn : n.wf = true) (h : ∀ a, m.read a = n.read a) : m = n := by
  induction m generalizing n with
  | nil =>
    cases n with
    | nil => rfl
    | cons f ns =>
      obtain ⟨k, v⟩ := f
      obtain ⟨h1, -, -⟩ := (Memory.wf_cons k v ns).1 hn
      have := h k
      simp [Memory.read_cons] at this
      exact absurd this.symm h1
  | cons e ms ih =>
    obtain ⟨k, v⟩ := e
    obtain ⟨h1, h2, h3⟩ := (Memory.wf_cons k v ms).1 hm
    cases n with
    | nil =>
      have := h k
      simp [Memory.read_cons] at this
      exact absurd this h1
    | cons f ns =>
      obtain ⟨k', v'⟩ := f
      obtain ⟨g1, g2, g3⟩ := (Memory.wf_cons k' v' ns).1 hn
      have hk : k = k' := by
        rcases Nat.lt_trichotomy k k' with hlt | heq | hlt
        · have hz : Memory.read ((k', v') :: ns) k = 0 := Memory.read_eq_zero _ _ (by
            intro e he
            rcases List.mem_cons.1 he with rfl | he
            · exact (Nat.ne_of_gt hlt)
            · have := g2 e he; omega)
          have := h k
          rw [hz, Memory.read_cons, if_pos rfl] at this
          exact absurd this h1
        · exact heq
        · have hz : Memory.read ((k, v) :: ms) k' = 0 := Memory.read_eq_zero _ _ (by
            intro e he
            rcases List.mem_cons.1 he with rfl | he
            · exact (Nat.ne_of_gt hlt)
            · have := h2 e he; omega)
          have := h k'
          rw [hz, Memory.read_cons, if_pos rfl] at this
          exact absurd this.symm g1
      subst hk
      have hv : v = v' := by simpa [Memory.read_cons] using h k
      subst hv
      congr 1
      apply ih ns h3 g3
      intro a
      by_cases ha : k = a
      · subst ha
        rw [Memory.read_eq_zero ms k fun e he => Nat.ne_of_gt (h2 e he),
          Memory.read_eq_zero ns k fun e he => Nat.ne_of_gt (g2 e he)]
      · simpa [Memory.read_cons, ha] using h a

end Sys2Proof.Machine
end

