-- ==== Sys2Proof/Laws/State.lean ====
section
/-! SUPPORT. One lemma per field per update of the state, each true by unfolding once, so that no later proof unfolds a
record update. -/

namespace Sys2Proof.Machine

section
variable (s : State)

/-! ### `State.raise` -/

@[simp] theorem State.raise_params (x : Exc) : (s.raise x).params = s.params := rfl
@[simp] theorem State.raise_platform (x : Exc) : (s.raise x).platform = s.platform := rfl
@[simp] theorem State.raise_openDraws (x : Exc) : (s.raise x).openDraws = s.openDraws := rfl
@[simp] theorem State.raise_ioErrDraws (x : Exc) : (s.raise x).ioErrDraws = s.ioErrDraws := rfl
@[simp] theorem State.raise_cfg (x : Exc) : (s.raise x).cfg = s.cfg := rfl
@[simp] theorem State.raise_busy (x : Exc) : (s.raise x).busy = s.busy := rfl
@[simp] theorem State.raise_inbox (x : Exc) : (s.raise x).inbox = s.inbox := rfl
@[simp] theorem State.raise_results (x : Exc) : (s.raise x).results = s.results := rfl
@[simp] theorem State.raise_sink (x : Exc) : (s.raise x).sink = s.sink := rfl
@[simp] theorem State.raise_srcLog (x : Exc) : (s.raise x).srcLog = s.srcLog := rfl
@[simp] theorem State.raise_session_phase (x : Exc) : (s.raise x).session.phase = x.terminal := rfl
@[simp] theorem State.raise_session_cfgOk (x : Exc) : (s.raise x).session.cfgOk = s.session.cfgOk := rfl
@[simp] theorem State.raise_session_eventValid (x : Exc) : (s.raise x).session.eventValid = s.session.eventValid := rfl
@[simp] theorem State.raise_session_cmdErr (x : Exc) : (s.raise x).session.cmdErr = s.session.cmdErr := rfl
@[simp] theorem State.raise_session_cause (x : Exc) : (s.raise x).session.cause = x.cause := rfl
@[simp] theorem State.raise_session_errInfo (x : Exc) : (s.raise x).session.errInfo = x.info := rfl
@[simp] theorem State.raise_session_ec (x : Exc) : (s.raise x).session.ec = s.session.ec := rfl
@[simp] theorem State.raise_session_activeMask (x : Exc) : (s.raise x).session.activeMask = s.session.activeMask := rfl
@[simp] theorem State.raise_session_srcOpen (x : Exc) : (s.raise x).session.srcOpen = s.session.srcOpen := rfl
@[simp] theorem State.raise_session_fb (x : Exc) : (s.raise x).session.fb = s.session.fb := rfl
@[simp] theorem State.raise_session_sm (x : Exc) : (s.raise x).session.sm = s.session.sm := rfl
@[simp] theorem State.raise_session_geom (x : Exc) : (s.raise x).session.geom = s.session.geom := rfl

/-! ### `State.newSession` -/

@[simp] theorem State.newSession_params : (s.newSession).params = s.params := rfl
@[simp] theorem State.newSession_platform : (s.newSession).platform = s.platform := rfl
@[simp] theorem State.newSession_openDraws : (s.newSession).openDraws = s.openDraws := rfl
@[simp] theorem State.newSession_ioErrDraws : (s.newSession).ioErrDraws = s.ioErrDraws := rfl
@[simp] theorem State.newSession_cfg : (s.newSession).cfg = s.cfg := rfl
@[simp] theorem State.newSession_session : (s.newSession).session = Session.reset := rfl
@[simp] theorem State.newSession_busy : (s.newSession).busy = s.busy := rfl
@[simp] theorem State.newSession_inbox : (s.newSession).inbox = s.inbox := rfl
@[simp] theorem State.newSession_results : (s.newSession).results = s.results := rfl
@[simp] theorem State.newSession_sink : (s.newSession).sink = s.sink := rfl
@[simp] theorem State.newSession_srcLog : (s.newSession).srcLog = s.srcLog := rfl

/-! ### `State.hardReset` -/

@[simp] theorem State.hardReset_params : (s.hardReset).params = s.params := rfl
@[simp] theorem State.hardReset_platform : (s.hardReset).platform = s.platform := rfl
@[simp] theorem State.hardReset_openDraws : (s.hardReset).openDraws = s.openDraws := rfl
@[simp] theorem State.hardReset_ioErrDraws : (s.hardReset).ioErrDraws = s.ioErrDraws := rfl
@[simp] theorem State.hardReset_cfg : (s.hardReset).cfg = CfgRegs.reset := rfl
@[simp] theorem State.hardReset_session : (s.hardReset).session = Session.reset := rfl
@[simp] theorem State.hardReset_busy : (s.hardReset).busy = false := rfl
@[simp] theorem State.hardReset_inbox : (s.hardReset).inbox = s.inbox := rfl
@[simp] theorem State.hardReset_results : (s.hardReset).results = s.results := rfl
@[simp] theorem State.hardReset_sink : (s.hardReset).sink = s.sink := rfl
@[simp] theorem State.hardReset_srcLog : (s.hardReset).srcLog = s.srcLog := rfl

/-! ### `State.setCmdErr` -/

@[simp] theorem State.setCmdErr_params : (s.setCmdErr).params = s.params := rfl
@[simp] theorem State.setCmdErr_platform : (s.setCmdErr).platform = s.platform := rfl
@[simp] theorem State.setCmdErr_openDraws : (s.setCmdErr).openDraws = s.openDraws := rfl
@[simp] theorem State.setCmdErr_ioErrDraws : (s.setCmdErr).ioErrDraws = s.ioErrDraws := rfl
@[simp] theorem State.setCmdErr_cfg : (s.setCmdErr).cfg = s.cfg := rfl
@[simp] theorem State.setCmdErr_busy : (s.setCmdErr).busy = s.busy := rfl
@[simp] theorem State.setCmdErr_inbox : (s.setCmdErr).inbox = s.inbox := rfl
@[simp] theorem State.setCmdErr_results : (s.setCmdErr).results = s.results := rfl
@[simp] theorem State.setCmdErr_sink : (s.setCmdErr).sink = s.sink := rfl
@[simp] theorem State.setCmdErr_srcLog : (s.setCmdErr).srcLog = s.srcLog := rfl
@[simp] theorem State.setCmdErr_session_phase : (s.setCmdErr).session.phase = s.session.phase := rfl
@[simp] theorem State.setCmdErr_session_cfgOk : (s.setCmdErr).session.cfgOk = s.session.cfgOk := rfl
@[simp] theorem State.setCmdErr_session_eventValid : (s.setCmdErr).session.eventValid = s.session.eventValid := rfl
@[simp] theorem State.setCmdErr_session_cmdErr : (s.setCmdErr).session.cmdErr = true := rfl
@[simp] theorem State.setCmdErr_session_cause : (s.setCmdErr).session.cause = s.session.cause := rfl
@[simp] theorem State.setCmdErr_session_errInfo : (s.setCmdErr).session.errInfo = s.session.errInfo := rfl
@[simp] theorem State.setCmdErr_session_ec : (s.setCmdErr).session.ec = s.session.ec := rfl
@[simp] theorem State.setCmdErr_session_activeMask : (s.setCmdErr).session.activeMask = s.session.activeMask := rfl
@[simp] theorem State.setCmdErr_session_srcOpen : (s.setCmdErr).session.srcOpen = s.session.srcOpen := rfl
@[simp] theorem State.setCmdErr_session_fb : (s.setCmdErr).session.fb = s.session.fb := rfl
@[simp] theorem State.setCmdErr_session_sm : (s.setCmdErr).session.sm = s.session.sm := rfl
@[simp] theorem State.setCmdErr_session_geom : (s.setCmdErr).session.geom = s.session.geom := rfl

/-! ### `State.setEventValid` -/

@[simp] theorem State.setEventValid_params (b : Bool) : (s.setEventValid b).params = s.params := rfl
@[simp] theorem State.setEventValid_platform (b : Bool) : (s.setEventValid b).platform = s.platform := rfl
@[simp] theorem State.setEventValid_openDraws (b : Bool) : (s.setEventValid b).openDraws = s.openDraws := rfl
@[simp] theorem State.setEventValid_ioErrDraws (b : Bool) : (s.setEventValid b).ioErrDraws = s.ioErrDraws := rfl
@[simp] theorem State.setEventValid_cfg (b : Bool) : (s.setEventValid b).cfg = s.cfg := rfl
@[simp] theorem State.setEventValid_busy (b : Bool) : (s.setEventValid b).busy = s.busy := rfl
@[simp] theorem State.setEventValid_inbox (b : Bool) : (s.setEventValid b).inbox = s.inbox := rfl
@[simp] theorem State.setEventValid_results (b : Bool) : (s.setEventValid b).results = s.results := rfl
@[simp] theorem State.setEventValid_sink (b : Bool) : (s.setEventValid b).sink = s.sink := rfl
@[simp] theorem State.setEventValid_srcLog (b : Bool) : (s.setEventValid b).srcLog = s.srcLog := rfl
@[simp] theorem State.setEventValid_session_phase (b : Bool) :
    (s.setEventValid b).session.phase = s.session.phase := rfl
@[simp] theorem State.setEventValid_session_cfgOk (b : Bool) :
    (s.setEventValid b).session.cfgOk = s.session.cfgOk := rfl
@[simp] theorem State.setEventValid_session_eventValid (b : Bool) : (s.setEventValid b).session.eventValid = b := rfl
@[simp] theorem State.setEventValid_session_cmdErr (b : Bool) :
    (s.setEventValid b).session.cmdErr = s.session.cmdErr := rfl
@[simp] theorem State.setEventValid_session_cause (b : Bool) :
    (s.setEventValid b).session.cause = s.session.cause := rfl
@[simp] theorem State.setEventValid_session_errInfo (b : Bool) :
    (s.setEventValid b).session.errInfo = s.session.errInfo := rfl
@[simp] theorem State.setEventValid_session_ec (b : Bool) : (s.setEventValid b).session.ec = s.session.ec := rfl
@[simp] theorem State.setEventValid_session_activeMask (b : Bool) :
    (s.setEventValid b).session.activeMask = s.session.activeMask := rfl
@[simp] theorem State.setEventValid_session_srcOpen (b : Bool) :
    (s.setEventValid b).session.srcOpen = s.session.srcOpen := rfl
@[simp] theorem State.setEventValid_session_fb (b : Bool) : (s.setEventValid b).session.fb = s.session.fb := rfl
@[simp] theorem State.setEventValid_session_sm (b : Bool) : (s.setEventValid b).session.sm = s.session.sm := rfl
@[simp] theorem State.setEventValid_session_geom (b : Bool) : (s.setEventValid b).session.geom = s.session.geom := rfl

/-! ### `State.setPhase` -/

@[simp] theorem State.setPhase_params (p : Phase) : (s.setPhase p).params = s.params := rfl
@[simp] theorem State.setPhase_platform (p : Phase) : (s.setPhase p).platform = s.platform := rfl
@[simp] theorem State.setPhase_openDraws (p : Phase) : (s.setPhase p).openDraws = s.openDraws := rfl
@[simp] theorem State.setPhase_ioErrDraws (p : Phase) : (s.setPhase p).ioErrDraws = s.ioErrDraws := rfl
@[simp] theorem State.setPhase_cfg (p : Phase) : (s.setPhase p).cfg = s.cfg := rfl
@[simp] theorem State.setPhase_busy (p : Phase) : (s.setPhase p).busy = s.busy := rfl
@[simp] theorem State.setPhase_inbox (p : Phase) : (s.setPhase p).inbox = s.inbox := rfl
@[simp] theorem State.setPhase_results (p : Phase) : (s.setPhase p).results = s.results := rfl
@[simp] theorem State.setPhase_sink (p : Phase) : (s.setPhase p).sink = s.sink := rfl
@[simp] theorem State.setPhase_srcLog (p : Phase) : (s.setPhase p).srcLog = s.srcLog := rfl
@[simp] theorem State.setPhase_session_phase (p : Phase) : (s.setPhase p).session.phase = p := rfl
@[simp] theorem State.setPhase_session_cfgOk (p : Phase) : (s.setPhase p).session.cfgOk = s.session.cfgOk := rfl
@[simp] theorem State.setPhase_session_eventValid (p : Phase) :
    (s.setPhase p).session.eventValid = s.session.eventValid := rfl
@[simp] theorem State.setPhase_session_cmdErr (p : Phase) : (s.setPhase p).session.cmdErr = s.session.cmdErr := rfl
@[simp] theorem State.setPhase_session_cause (p : Phase) : (s.setPhase p).session.cause = s.session.cause := rfl
@[simp] theorem State.setPhase_session_errInfo (p : Phase) : (s.setPhase p).session.errInfo = s.session.errInfo := rfl
@[simp] theorem State.setPhase_session_ec (p : Phase) : (s.setPhase p).session.ec = s.session.ec := rfl
@[simp] theorem State.setPhase_session_activeMask (p : Phase) :
    (s.setPhase p).session.activeMask = s.session.activeMask := rfl
@[simp] theorem State.setPhase_session_srcOpen (p : Phase) : (s.setPhase p).session.srcOpen = s.session.srcOpen := rfl
@[simp] theorem State.setPhase_session_fb (p : Phase) : (s.setPhase p).session.fb = s.session.fb := rfl
@[simp] theorem State.setPhase_session_sm (p : Phase) : (s.setPhase p).session.sm = s.session.sm := rfl
@[simp] theorem State.setPhase_session_geom (p : Phase) : (s.setPhase p).session.geom = s.session.geom := rfl

/-! ### `State.latchConfig` -/

@[simp] theorem State.latchConfig_params (m : Word) : (s.latchConfig m).params = s.params := rfl
@[simp] theorem State.latchConfig_platform (m : Word) : (s.latchConfig m).platform = s.platform := rfl
@[simp] theorem State.latchConfig_openDraws (m : Word) : (s.latchConfig m).openDraws = s.openDraws := rfl
@[simp] theorem State.latchConfig_ioErrDraws (m : Word) : (s.latchConfig m).ioErrDraws = s.ioErrDraws := rfl
@[simp] theorem State.latchConfig_cfg (m : Word) : (s.latchConfig m).cfg = s.cfg := rfl
@[simp] theorem State.latchConfig_busy (m : Word) : (s.latchConfig m).busy = s.busy := rfl
@[simp] theorem State.latchConfig_inbox (m : Word) : (s.latchConfig m).inbox = s.inbox := rfl
@[simp] theorem State.latchConfig_results (m : Word) : (s.latchConfig m).results = s.results := rfl
@[simp] theorem State.latchConfig_sink (m : Word) : (s.latchConfig m).sink = s.sink := rfl
@[simp] theorem State.latchConfig_srcLog (m : Word) : (s.latchConfig m).srcLog = s.srcLog := rfl
@[simp] theorem State.latchConfig_session_phase (m : Word) : (s.latchConfig m).session.phase = s.session.phase := rfl
@[simp] theorem State.latchConfig_session_cfgOk (m : Word) : (s.latchConfig m).session.cfgOk = true := rfl
@[simp] theorem State.latchConfig_session_eventValid (m : Word) :
    (s.latchConfig m).session.eventValid = s.session.eventValid := rfl
@[simp] theorem State.latchConfig_session_cmdErr (m : Word) : (s.latchConfig m).session.cmdErr = s.session.cmdErr := rfl
@[simp] theorem State.latchConfig_session_cause (m : Word) : (s.latchConfig m).session.cause = s.session.cause := rfl
@[simp] theorem State.latchConfig_session_errInfo (m : Word) :
    (s.latchConfig m).session.errInfo = s.session.errInfo := rfl
@[simp] theorem State.latchConfig_session_ec (m : Word) : (s.latchConfig m).session.ec = s.session.ec := rfl
@[simp] theorem State.latchConfig_session_activeMask (m : Word) : (s.latchConfig m).session.activeMask = m := rfl
@[simp] theorem State.latchConfig_session_srcOpen (m : Word) :
    (s.latchConfig m).session.srcOpen = s.session.srcOpen := rfl
@[simp] theorem State.latchConfig_session_fb (m : Word) : (s.latchConfig m).session.fb = s.session.fb := rfl
@[simp] theorem State.latchConfig_session_sm (m : Word) : (s.latchConfig m).session.sm = s.session.sm := rfl
@[simp] theorem State.latchConfig_session_geom (m : Word) : (s.latchConfig m).session.geom = s.session.geom := rfl

/-! ### `State.loadFrame` -/

@[simp] theorem State.loadFrame_params (b : List Byte) : (s.loadFrame b).params = s.params := rfl
@[simp] theorem State.loadFrame_platform (b : List Byte) : (s.loadFrame b).platform = s.platform := rfl
@[simp] theorem State.loadFrame_openDraws (b : List Byte) : (s.loadFrame b).openDraws = s.openDraws := rfl
@[simp] theorem State.loadFrame_ioErrDraws (b : List Byte) : (s.loadFrame b).ioErrDraws = s.ioErrDraws := rfl
@[simp] theorem State.loadFrame_cfg (b : List Byte) : (s.loadFrame b).cfg = s.cfg := rfl
@[simp] theorem State.loadFrame_busy (b : List Byte) : (s.loadFrame b).busy = s.busy := rfl
@[simp] theorem State.loadFrame_inbox (b : List Byte) : (s.loadFrame b).inbox = s.inbox := rfl
@[simp] theorem State.loadFrame_results (b : List Byte) : (s.loadFrame b).results = s.results := rfl
@[simp] theorem State.loadFrame_sink (b : List Byte) : (s.loadFrame b).sink = s.sink := rfl
@[simp] theorem State.loadFrame_srcLog (b : List Byte) : (s.loadFrame b).srcLog = s.srcLog := rfl
@[simp] theorem State.loadFrame_session_phase (b : List Byte) : (s.loadFrame b).session.phase = s.session.phase := rfl
@[simp] theorem State.loadFrame_session_cfgOk (b : List Byte) : (s.loadFrame b).session.cfgOk = s.session.cfgOk := rfl
@[simp] theorem State.loadFrame_session_eventValid (b : List Byte) :
    (s.loadFrame b).session.eventValid = s.session.eventValid := rfl
@[simp] theorem State.loadFrame_session_cmdErr (b : List Byte) :
    (s.loadFrame b).session.cmdErr = s.session.cmdErr := rfl
@[simp] theorem State.loadFrame_session_cause (b : List Byte) : (s.loadFrame b).session.cause = s.session.cause := rfl
@[simp] theorem State.loadFrame_session_errInfo (b : List Byte) :
    (s.loadFrame b).session.errInfo = s.session.errInfo := rfl
@[simp] theorem State.loadFrame_session_ec (b : List Byte) : (s.loadFrame b).session.ec = s.session.ec := rfl
@[simp] theorem State.loadFrame_session_activeMask (b : List Byte) :
    (s.loadFrame b).session.activeMask = s.session.activeMask := rfl
@[simp] theorem State.loadFrame_session_srcOpen (b : List Byte) :
    (s.loadFrame b).session.srcOpen = s.session.srcOpen := rfl
@[simp] theorem State.loadFrame_session_fb (b : List Byte) :
    (s.loadFrame b).session.fb = Memory.writeRange s.session.fb 0 (normalizeFrame b) := rfl
@[simp] theorem State.loadFrame_session_sm (b : List Byte) : (s.loadFrame b).session.sm = s.session.sm := rfl
@[simp] theorem State.loadFrame_session_geom (b : List Byte) : (s.loadFrame b).session.geom = s.session.geom := rfl

/-! ### `State.demuxFrame` -/

@[simp] theorem State.demuxFrame_params : (s.demuxFrame).params = s.params := rfl
@[simp] theorem State.demuxFrame_platform : (s.demuxFrame).platform = s.platform := rfl
@[simp] theorem State.demuxFrame_openDraws : (s.demuxFrame).openDraws = s.openDraws := rfl
@[simp] theorem State.demuxFrame_ioErrDraws : (s.demuxFrame).ioErrDraws = s.ioErrDraws := rfl
@[simp] theorem State.demuxFrame_cfg : (s.demuxFrame).cfg = s.cfg := rfl
@[simp] theorem State.demuxFrame_busy : (s.demuxFrame).busy = s.busy := rfl
@[simp] theorem State.demuxFrame_inbox : (s.demuxFrame).inbox = s.inbox := rfl
@[simp] theorem State.demuxFrame_results : (s.demuxFrame).results = s.results := rfl
@[simp] theorem State.demuxFrame_sink : (s.demuxFrame).sink = s.sink := rfl
@[simp] theorem State.demuxFrame_srcLog : (s.demuxFrame).srcLog = s.srcLog := rfl
@[simp] theorem State.demuxFrame_session_phase : (s.demuxFrame).session.phase = s.session.phase := rfl
@[simp] theorem State.demuxFrame_session_cfgOk : (s.demuxFrame).session.cfgOk = s.session.cfgOk := rfl
@[simp] theorem State.demuxFrame_session_eventValid : (s.demuxFrame).session.eventValid = s.session.eventValid := rfl
@[simp] theorem State.demuxFrame_session_cmdErr : (s.demuxFrame).session.cmdErr = s.session.cmdErr := rfl
@[simp] theorem State.demuxFrame_session_cause : (s.demuxFrame).session.cause = s.session.cause := rfl
@[simp] theorem State.demuxFrame_session_errInfo : (s.demuxFrame).session.errInfo = s.session.errInfo := rfl
@[simp] theorem State.demuxFrame_session_ec : (s.demuxFrame).session.ec = s.session.ec := rfl
@[simp] theorem State.demuxFrame_session_activeMask : (s.demuxFrame).session.activeMask = s.session.activeMask := rfl
@[simp] theorem State.demuxFrame_session_srcOpen : (s.demuxFrame).session.srcOpen = s.session.srcOpen := rfl
@[simp] theorem State.demuxFrame_session_fb : (s.demuxFrame).session.fb = s.session.fb := rfl
@[simp] theorem State.demuxFrame_session_sm :
    (s.demuxFrame).session.sm = writePlanes s.session.sm (demux s.session.fb s.session.activeMask) := rfl
@[simp] theorem State.demuxFrame_session_geom : (s.demuxFrame).session.geom = s.session.geom := rfl

/-! ### `State.mapChannels` -/

@[simp] theorem State.mapChannels_params : (s.mapChannels).params = s.params := rfl
@[simp] theorem State.mapChannels_platform : (s.mapChannels).platform = s.platform := rfl
@[simp] theorem State.mapChannels_openDraws : (s.mapChannels).openDraws = s.openDraws := rfl
@[simp] theorem State.mapChannels_ioErrDraws : (s.mapChannels).ioErrDraws = s.ioErrDraws := rfl
@[simp] theorem State.mapChannels_cfg : (s.mapChannels).cfg = s.cfg := rfl
@[simp] theorem State.mapChannels_busy : (s.mapChannels).busy = s.busy := rfl
@[simp] theorem State.mapChannels_inbox : (s.mapChannels).inbox = s.inbox := rfl
@[simp] theorem State.mapChannels_results : (s.mapChannels).results = s.results := rfl
@[simp] theorem State.mapChannels_sink : (s.mapChannels).sink = s.sink := rfl
@[simp] theorem State.mapChannels_srcLog : (s.mapChannels).srcLog = s.srcLog := rfl
@[simp] theorem State.mapChannels_session_phase : (s.mapChannels).session.phase = s.session.phase := rfl
@[simp] theorem State.mapChannels_session_cfgOk : (s.mapChannels).session.cfgOk = s.session.cfgOk := rfl
@[simp] theorem State.mapChannels_session_eventValid : (s.mapChannels).session.eventValid = s.session.eventValid := rfl
@[simp] theorem State.mapChannels_session_cmdErr : (s.mapChannels).session.cmdErr = s.session.cmdErr := rfl
@[simp] theorem State.mapChannels_session_cause : (s.mapChannels).session.cause = s.session.cause := rfl
@[simp] theorem State.mapChannels_session_errInfo : (s.mapChannels).session.errInfo = s.session.errInfo := rfl
@[simp] theorem State.mapChannels_session_ec : (s.mapChannels).session.ec = s.session.ec := rfl
@[simp] theorem State.mapChannels_session_activeMask : (s.mapChannels).session.activeMask = s.session.activeMask := rfl
@[simp] theorem State.mapChannels_session_srcOpen : (s.mapChannels).session.srcOpen = s.session.srcOpen := rfl
@[simp] theorem State.mapChannels_session_fb : (s.mapChannels).session.fb = s.session.fb := rfl
@[simp] theorem State.mapChannels_session_sm : (s.mapChannels).session.sm = s.session.sm := rfl
@[simp] theorem State.mapChannels_session_geom :
    (s.mapChannels).session.geom = writePlanes s.session.geom (lookups s.platform.map s.planes s.cpc) := rfl

/-! ### `State.answer` -/

@[simp] theorem State.answer_params (v : Word) : (s.answer v).params = s.params := rfl
@[simp] theorem State.answer_platform (v : Word) : (s.answer v).platform = s.platform := rfl
@[simp] theorem State.answer_openDraws (v : Word) : (s.answer v).openDraws = s.openDraws := rfl
@[simp] theorem State.answer_ioErrDraws (v : Word) : (s.answer v).ioErrDraws = s.ioErrDraws := rfl
@[simp] theorem State.answer_cfg (v : Word) : (s.answer v).cfg = s.cfg := rfl
@[simp] theorem State.answer_session (v : Word) : (s.answer v).session = s.session := rfl
@[simp] theorem State.answer_busy (v : Word) : (s.answer v).busy = s.busy := rfl
@[simp] theorem State.answer_inbox (v : Word) : (s.answer v).inbox = s.inbox := rfl
@[simp] theorem State.answer_results (v : Word) : (s.answer v).results = s.results ++ [v] := rfl
@[simp] theorem State.answer_sink (v : Word) : (s.answer v).sink = s.sink := rfl
@[simp] theorem State.answer_srcLog (v : Word) : (s.answer v).srcLog = s.srcLog := rfl

/-! ### `State.afterOpen` -/

@[simp] theorem State.afterOpen_params : (s.afterOpen).params = s.params := rfl
@[simp] theorem State.afterOpen_platform : (s.afterOpen).platform = s.platform := rfl
@[simp] theorem State.afterOpen_openDraws : (s.afterOpen).openDraws = s.openDraws.tail := rfl
@[simp] theorem State.afterOpen_ioErrDraws : (s.afterOpen).ioErrDraws = s.ioErrDraws := rfl
@[simp] theorem State.afterOpen_cfg : (s.afterOpen).cfg = s.cfg := rfl
@[simp] theorem State.afterOpen_session : (s.afterOpen).session = s.session := rfl
@[simp] theorem State.afterOpen_busy : (s.afterOpen).busy = s.busy := rfl
@[simp] theorem State.afterOpen_inbox : (s.afterOpen).inbox = s.inbox := rfl
@[simp] theorem State.afterOpen_results : (s.afterOpen).results = s.results := rfl
@[simp] theorem State.afterOpen_sink : (s.afterOpen).sink = s.sink := rfl
@[simp] theorem State.afterOpen_srcLog : (s.afterOpen).srcLog = s.srcLog ++ [.srcOpen] := rfl

/-! ### `State.afterRead` -/

@[simp] theorem State.afterRead_params (off n : Nat) : (s.afterRead off n).params = s.params := rfl
@[simp] theorem State.afterRead_platform (off n : Nat) : (s.afterRead off n).platform = s.platform := rfl
@[simp] theorem State.afterRead_openDraws (off n : Nat) : (s.afterRead off n).openDraws = s.openDraws := rfl
@[simp] theorem State.afterRead_ioErrDraws (off n : Nat) : (s.afterRead off n).ioErrDraws = if s.pastEnd off n then s.ioErrDraws else s.ioErrDraws.tail :=
    rfl
@[simp] theorem State.afterRead_cfg (off n : Nat) : (s.afterRead off n).cfg = s.cfg := rfl
@[simp] theorem State.afterRead_session (off n : Nat) : (s.afterRead off n).session = s.session := rfl
@[simp] theorem State.afterRead_busy (off n : Nat) : (s.afterRead off n).busy = s.busy := rfl
@[simp] theorem State.afterRead_inbox (off n : Nat) : (s.afterRead off n).inbox = s.inbox := rfl
@[simp] theorem State.afterRead_results (off n : Nat) : (s.afterRead off n).results = s.results := rfl
@[simp] theorem State.afterRead_sink (off n : Nat) : (s.afterRead off n).sink = s.sink := rfl
@[simp] theorem State.afterRead_srcLog (off n : Nat) : (s.afterRead off n).srcLog = s.srcLog ++ [.srcRead off n] := rfl

/-! ### `State.sinkEmit` -/

@[simp] theorem State.sinkEmit_params (c : Collection) : (s.sinkEmit c).params = s.params := rfl
@[simp] theorem State.sinkEmit_platform (c : Collection) : (s.sinkEmit c).platform = s.platform := rfl
@[simp] theorem State.sinkEmit_openDraws (c : Collection) : (s.sinkEmit c).openDraws = s.openDraws := rfl
@[simp] theorem State.sinkEmit_ioErrDraws (c : Collection) : (s.sinkEmit c).ioErrDraws = s.ioErrDraws := rfl
@[simp] theorem State.sinkEmit_cfg (c : Collection) : (s.sinkEmit c).cfg = s.cfg := rfl
@[simp] theorem State.sinkEmit_session (c : Collection) : (s.sinkEmit c).session = s.session := rfl
@[simp] theorem State.sinkEmit_busy (c : Collection) : (s.sinkEmit c).busy = s.busy := rfl
@[simp] theorem State.sinkEmit_inbox (c : Collection) : (s.sinkEmit c).inbox = s.inbox := rfl
@[simp] theorem State.sinkEmit_results (c : Collection) : (s.sinkEmit c).results = s.results := rfl
@[simp] theorem State.sinkEmit_sink (c : Collection) : (s.sinkEmit c).sink = s.sink ++ [c] := rfl
@[simp] theorem State.sinkEmit_srcLog (c : Collection) : (s.sinkEmit c).srcLog = s.srcLog := rfl

/-! ### `State.emitEvent` -/

@[simp] theorem State.emitEvent_params : (s.emitEvent).params = s.params := rfl
@[simp] theorem State.emitEvent_platform : (s.emitEvent).platform = s.platform := rfl
@[simp] theorem State.emitEvent_openDraws : (s.emitEvent).openDraws = s.openDraws := rfl
@[simp] theorem State.emitEvent_ioErrDraws : (s.emitEvent).ioErrDraws = s.ioErrDraws := rfl
@[simp] theorem State.emitEvent_cfg : (s.emitEvent).cfg = s.cfg := rfl
@[simp] theorem State.emitEvent_busy : (s.emitEvent).busy = s.busy := rfl
@[simp] theorem State.emitEvent_inbox : (s.emitEvent).inbox = s.inbox := rfl
@[simp] theorem State.emitEvent_results : (s.emitEvent).results = s.results := rfl
@[simp] theorem State.emitEvent_sink : (s.emitEvent).sink = s.sink ++ [s.collection] := rfl
@[simp] theorem State.emitEvent_srcLog : (s.emitEvent).srcLog = s.srcLog := rfl
@[simp] theorem State.emitEvent_session_phase : (s.emitEvent).session.phase = .reading := rfl
@[simp] theorem State.emitEvent_session_cfgOk : (s.emitEvent).session.cfgOk = s.session.cfgOk := rfl
@[simp] theorem State.emitEvent_session_eventValid : (s.emitEvent).session.eventValid = true := rfl
@[simp] theorem State.emitEvent_session_cmdErr : (s.emitEvent).session.cmdErr = s.session.cmdErr := rfl
@[simp] theorem State.emitEvent_session_cause : (s.emitEvent).session.cause = s.session.cause := rfl
@[simp] theorem State.emitEvent_session_errInfo : (s.emitEvent).session.errInfo = s.session.errInfo := rfl
@[simp] theorem State.emitEvent_session_ec : (s.emitEvent).session.ec = s.session.ec + 1 := rfl
@[simp] theorem State.emitEvent_session_activeMask : (s.emitEvent).session.activeMask = s.session.activeMask := rfl
@[simp] theorem State.emitEvent_session_srcOpen : (s.emitEvent).session.srcOpen = s.session.srcOpen := rfl
@[simp] theorem State.emitEvent_session_fb : (s.emitEvent).session.fb = s.session.fb := rfl
@[simp] theorem State.emitEvent_session_sm : (s.emitEvent).session.sm = s.session.sm := rfl
@[simp] theorem State.emitEvent_session_geom : (s.emitEvent).session.geom = s.session.geom := rfl

/-! ### Derived quantities depend on the fields they read -/

/-- CFG_WRITABLE spelled out (10_state R43). -/
theorem State.cfgWritable_iff : s.cfgWritable = true ↔ s.session.phase = .uninit ∧ s.session.cfgOk = false := by
  simp [State.cfgWritable]

end

end Sys2Proof.Machine
end

