-- ==== Sys2Proof/Laws/Commands.lean ====
section
/-! SUPPORT. What each shared operation can do, said once: the host's gate, a configuration write, START, the phases of
NEXT_EVENT, the delivery of a transaction and the step. Later proofs cite these instead of unfolding the operations. -/

namespace Sys2Proof.Machine

section
variable (s : State)

/-! ### The gate and the configuration write -/

theorem State.hostWrite_of_not_busy (f : State → State) (h : s.busy = false) : s.hostWrite f = f s := by
  simp [State.hostWrite, h]

theorem State.hostWrite_of_busy (f : State → State) (h : s.busy = true) : s.hostWrite f = s.setCmdErr := by
  simp [State.hostWrite, h]

theorem State.writeCfg_of_writable (f : CfgRegs → CfgRegs) (h : s.cfgWritable = true) :
    s.writeCfg f = { s with cfg := f s.cfg } := by simp [State.writeCfg, h]

theorem State.writeCfg_of_locked (f : CfgRegs → CfgRegs) (h : s.cfgWritable = false) :
    s.writeCfg f = s.setCmdErr := by simp [State.writeCfg, h]

/-! ### START -/

/-- START either sets CMD_ERR out of state, raises what the check finds, or latches the mask. -/
theorem State.start_cases :
    (s.cfgWritable = false ∧ s.start = s.setCmdErr) ∨
    (∃ x, s.cfgWritable = true ∧ s.configCheck = .error x ∧ s.start = s.raise x) ∨
    (∃ m, s.cfgWritable = true ∧ s.configCheck = .ok m ∧ s.start = s.latchConfig m) := by
  unfold State.start
  cases hw : s.cfgWritable with
  | false => simp
  | true => cases hc : s.configCheck <;> simp

/-- A check that passes: the configuration is legal, the map is loaded, and the mask is the board count's. -/
theorem State.configCheck_ok {m : Word} (h : s.configCheck = .ok m) :
    maskOf s.cfg.boardCount = some m ∧ Config.wordsNeeded ≤ s.wpe ∧ s.wpe ≤ s.params.wpeMax.toNat ∧
      1 ≤ s.cpc ∧ s.cpc ≤ s.params.cpcMax.toNat ∧ s.platform.mapReady = true := by
  unfold State.configCheck at h
  cases hm : maskOf s.cfg.boardCount with
  | none => simp [hm] at h
  | some m' =>
    simp only [hm] at h
    split at h
    · cases h
    · split at h
      · cases h
      · split at h
        · cases h
        · split at h
          · next h1 h2 h3 h4 =>
            cases h
            refine ⟨rfl, by omega, by omega, by omega, by omega, h4⟩
          · cases h

/-- A check that passes, from what it checks. -/
theorem State.configCheck_eq_ok {m : Word} (hm : maskOf s.cfg.boardCount = some m)
    (h1 : Config.wordsNeeded ≤ s.wpe) (h2 : s.wpe ≤ s.params.wpeMax.toNat) (h3 : 1 ≤ s.cpc)
    (h4 : s.cpc ≤ s.params.cpcMax.toNat) (h5 : s.platform.mapReady = true) : s.configCheck = .ok m := by
  unfold State.configCheck
  rw [hm]
  simp only [h5, if_true]
  rw [if_neg (by omega), if_neg (by omega), if_neg (by omega)]

/-- The only exceptions of the check are ConfigError with SUBCAUSE 1 to 4 and MapLoadError. -/
theorem State.configCheck_error {x : Exc} (h : s.configCheck = .error x) :
    x = .configError 1 ∨ x = .configError 2 ∨ x = .configError 3 ∨ x = .configError 4 ∨ x = .mapLoadError := by
  unfold State.configCheck at h
  cases hm : maskOf s.cfg.boardCount with
  | none => simp [hm] at h; simp [← h]
  | some m' =>
    simp only [hm] at h
    (repeat' split at h) <;> first | (injection h with h; simp [← h]) | cases h

/-! ### NEXT_EVENT -/

/-- The three ways FrameOpen can go. -/
theorem State.frameOpen_cases :
    (s.session.srcOpen = true ∧ s.frameOpen = (s, none)) ∨
    (s.session.srcOpen = false ∧ s.openAnswer = true ∧
      s.frameOpen = ({ s.afterOpen with session := { s.session with phase := .opening, srcOpen := true } }, none)) ∨
    (s.session.srcOpen = false ∧ s.openAnswer = false ∧
      s.frameOpen = ((s.setPhase .opening).afterOpen, some (.ioError 1))) := by
  have ha : (s.setPhase .opening).openAnswer = s.openAnswer := rfl
  unfold State.frameOpen
  cases h : s.session.srcOpen with
  | true => simp
  | false =>
    simp only [ha]
    cases s.openAnswer <;> simp

/-- A read is inside the source exactly when its last byte is, and inside the address width (20_memory R64). -/
theorem State.pastEnd_eq_false (off n : Nat) :
    s.pastEnd off n = false ↔ off + n ≤ s.platform.srcLen ∧ off + n ≤ 2 ^ Config.srcAddrW := by
  simp only [State.pastEnd, Bool.or_eq_false_iff, decide_eq_false_iff_not, Nat.not_lt]

/-- The three answers of a frame read. -/
theorem State.frameRead_cases :
    (s.pastEnd s.frameOffset s.frameSize = true ∧
      s.frameRead = (s.afterRead s.frameOffset s.frameSize, .error .streamEnd)) ∨
    (s.pastEnd s.frameOffset s.frameSize = false ∧ s.ioErrAnswer s.frameOffset = true ∧
      s.frameRead = (s.afterRead s.frameOffset s.frameSize, .error (.ioError 2))) ∨
    (s.pastEnd s.frameOffset s.frameSize = false ∧ s.ioErrAnswer s.frameOffset = false ∧
      s.frameRead = (s.afterRead s.frameOffset s.frameSize,
        .ok (Memory.readRange s.platform.srcBytes s.frameOffset s.frameSize))) := by
  unfold State.frameRead State.readAnswer
  cases s.pastEnd s.frameOffset s.frameSize <;> cases s.ioErrAnswer s.frameOffset <;> simp

/-- The state before validation, of a state whose frame's bytes have arrived. -/
def State.prepared (b : List Byte) : State := ((s.loadFrame b).demuxFrame).mapChannels

/-- Validation ends an event one way or the other. -/
theorem State.processFrame_cases (b : List Byte) :
    (∃ k, (s.prepared b).firstInvalid = some k ∧
      s.processFrame b = (s.prepared b).raise (.recordValidationError (BitVec.ofNat 5 k))) ∨
    ((s.prepared b).firstInvalid = none ∧ s.processFrame b = (s.prepared b).emitEvent) := by
  unfold State.processFrame State.assemble
  cases h : (s.prepared b).firstInvalid with
  | some k => exact .inl ⟨k, rfl, by simp only [State.prepared] at h; simp [State.prepared, h]⟩
  | none => exact .inr ⟨rfl, by simp only [State.prepared] at h; simp [State.prepared, h]⟩

/-- The state a frame read starts from: as it was, or with the source just opened. -/
def State.opened : State :=
  if s.session.srcOpen then s
  else { s.afterOpen with session := { s.session with phase := .opening, srcOpen := true } }

/-- Everything the request for an event can do. -/
theorem State.produceEvent_cases :
    (s.session.srcOpen = false ∧ s.openAnswer = false ∧
      s.produceEvent = ((s.setPhase .opening).afterOpen).raise (.ioError 1)) ∨
    ((s.session.srcOpen = true ∨ s.openAnswer = true) ∧
      let o := s.opened
      let r := o.afterRead o.frameOffset o.frameSize
      ((o.pastEnd o.frameOffset o.frameSize = true ∧ s.produceEvent = r.raise .streamEnd) ∨
       (o.pastEnd o.frameOffset o.frameSize = false ∧ o.ioErrAnswer o.frameOffset = true ∧
          s.produceEvent = r.raise (.ioError 2)) ∨
       (o.pastEnd o.frameOffset o.frameSize = false ∧ o.ioErrAnswer o.frameOffset = false ∧
          s.produceEvent =
            r.processFrame (Memory.readRange s.platform.srcBytes o.frameOffset o.frameSize)))) := by
  unfold State.produceEvent
  rcases s.frameOpen_cases with ⟨h1, h2⟩ | ⟨h1, h2, h3⟩ | ⟨h1, h2, h3⟩
  · right
    refine ⟨.inl h1, ?_⟩
    simp only [h2, State.opened, h1, if_true]
    rcases s.frameRead_cases with ⟨g1, g2⟩ | ⟨g1, g2, g3⟩ | ⟨g1, g2, g3⟩
    · simp [g1, g2]
    · simp [g1, g2, g3]
    · simp [g1, g2, g3]
  · right
    refine ⟨.inr h2, ?_⟩
    simp only [h3, State.opened, h1, Bool.false_eq_true, if_false]
    generalize hs : ({ s.afterOpen with session := { s.session with phase := .opening, srcOpen := true } } : State) = o
    have hp : s.platform = o.platform := by rw [← hs]; rfl
    rw [hp]
    rcases o.frameRead_cases with ⟨g1, g2⟩ | ⟨g1, g2, g3⟩ | ⟨g1, g2, g3⟩
    · simp [g1, g2]
    · simp [g1, g2, g3]
    · simp [g1, g2, g3]
  · left
    exact ⟨h1, h2, by simp [h3]⟩

/-- NEXT_EVENT by the session state it is issued in. -/
theorem State.nextEvent_cases :
    (s.session.phase.terminal = true ∧ s.nextEvent = s.setEventValid false) ∨
    (s.session.phase.terminal = false ∧ s.cfgWritable = true ∧
      s.nextEvent = (s.setEventValid false).setCmdErr) ∨
    (s.session.phase.terminal = false ∧ s.cfgWritable = false ∧
      s.nextEvent = (s.setEventValid false).produceEvent) := by
  have hw : (s.setEventValid false).cfgWritable = s.cfgWritable := rfl
  unfold State.nextEvent
  cases h : s.session.phase.terminal <;> cases h' : s.cfgWritable <;> simp [h, hw, h']

/-! ### What a produced or failed event leaves alone -/

/-- What no phase of an event writes. -/
structure State.SameSetup (t : State) : Prop where
  params : t.params = s.params
  platform : t.platform = s.platform
  cfg : t.cfg = s.cfg
  busy : t.busy = s.busy
  inbox : t.inbox = s.inbox
  results : t.results = s.results
  cfgOk : t.session.cfgOk = s.session.cfgOk
  cmdErr : t.session.cmdErr = s.session.cmdErr
  activeMask : t.session.activeMask = s.session.activeMask

theorem State.sameSetup_opened : s.SameSetup s.opened := by
  unfold State.opened
  split <;> constructor <;> rfl

theorem State.produceEvent_sameSetup : s.SameSetup s.produceEvent := by
  have ho := s.sameSetup_opened
  rcases s.produceEvent_cases with ⟨-, -, h⟩ | ⟨-, ⟨-, h⟩ | ⟨-, -, h⟩ | ⟨-, -, h⟩⟩
  · rw [h]; constructor <;> rfl
  · rw [h]; constructor <;> simp [ho.params, ho.platform, ho.cfg, ho.busy, ho.inbox, ho.results, ho.cfgOk, ho.cmdErr,
      ho.activeMask]
  · rw [h]; constructor <;> simp [ho.params, ho.platform, ho.cfg, ho.busy, ho.inbox, ho.results, ho.cfgOk, ho.cmdErr,
      ho.activeMask]
  · rw [h]
    rcases State.processFrame_cases (s.opened.afterRead s.opened.frameOffset s.opened.frameSize)
        (Memory.readRange s.platform.srcBytes s.opened.frameOffset s.opened.frameSize) with ⟨k, -, g⟩ | ⟨-, g⟩
    · rw [g]
      constructor <;> simp [State.prepared, ho.params, ho.platform, ho.cfg, ho.busy, ho.inbox, ho.results, ho.cfgOk,
        ho.cmdErr, ho.activeMask]
    · rw [g]
      constructor <;> simp [State.prepared, ho.params, ho.platform, ho.cfg, ho.busy, ho.inbox, ho.results, ho.cfgOk,
        ho.cmdErr, ho.activeMask]

/-! ### Delivery and the step -/

/-- Every instruction ends in a next state, in every state: a read's answer, or a write through the gate. -/
theorem exec_cases (i : Instr) :
    (∃ v, exec i s = .next (s.answer v)) ∨
    (∃ f : State → State, exec i s = .next (s.hostWrite f) ∧
      (f s = s ∨ (∃ g, f s = s.writeCfg g) ∨ f s = s.start ∨ f s = s.nextEvent ∨ f s = s.newSession ∨
        f s = s.setCmdErr)) := by
  cases i
  case wrCtrl v =>
    refine .inr ⟨_, rfl, ?_⟩
    simp only [State.runCommand, decodeCmd32]
    split <;> simp_all
  case nop => exact .inr ⟨_, rfl, .inl rfl⟩
  case start => exact .inr ⟨_, rfl, .inr (.inr (.inl rfl))⟩
  case nextEvent => exact .inr ⟨_, rfl, .inr (.inr (.inr (.inl rfl)))⟩
  case sessionReset => exact .inr ⟨_, rfl, .inr (.inr (.inr (.inr (.inl rfl))))⟩
  all_goals first
    | exact .inl ⟨_, rfl⟩
    | exact .inr ⟨_, rfl, .inl rfl⟩
    | exact .inr ⟨_, rfl, .inr (.inl ⟨_, rfl⟩)⟩

/-- Everything a transaction can do to the state. -/
theorem State.deliver_cases {w : HostWord} {t : State} (h : s.deliver w = .next t) :
    (∃ v, t = s.answer v) ∨ (s.busy = true ∧ t = s.setCmdErr) ∨
    (s.busy = false ∧ (t = s ∨ (∃ g, t = s.writeCfg g) ∨ t = s.start ∨ t = s.nextEvent ∨ t = s.newSession ∨
      t = s.setCmdErr)) := by
  have gate : ∀ f : State → State, t = s.hostWrite f →
      (f s = s ∨ (∃ g, f s = s.writeCfg g) ∨ f s = s.start ∨ f s = s.nextEvent ∨ f s = s.newSession ∨
        f s = s.setCmdErr) →
      (s.busy = true ∧ t = s.setCmdErr) ∨
      (s.busy = false ∧ (t = s ∨ (∃ g, t = s.writeCfg g) ∨ t = s.start ∨ t = s.nextEvent ∨ t = s.newSession ∨
        t = s.setCmdErr)) := by
    intro f ht hf
    cases hb : s.busy with
    | true => rw [s.hostWrite_of_busy f hb] at ht; exact .inl ⟨rfl, ht⟩
    | false => rw [s.hostWrite_of_not_busy f hb] at ht; rw [ht]; exact .inr ⟨rfl, hf⟩
  unfold State.deliver at h
  split at h
  · next i _ =>
    rcases exec_cases s i with ⟨v, hv⟩ | ⟨f, hf, hf'⟩
    · rw [hv] at h; injection h with h; exact .inl ⟨v, h.symm⟩
    · rw [hf] at h; injection h with h; exact .inr (gate f h.symm hf')
  · injection h with h; exact .inl ⟨0, h.symm⟩
  · injection h with h; exact .inr (gate (fun t => t) h.symm (.inl rfl))
  · cases h

/-- Everything a step can do: hold its state, execute a transaction, take the reset input, or take a new platform while
the configuration is writable. -/
theorem step_cases {t : State} (h : step s = .next t) :
    (s.inbox = [] ∧ t = s) ∨
    ∃ e rest, s.inbox = e :: rest ∧
      ((∃ w, e = .transaction w ∧ State.deliver { s with inbox := rest } w = .next t) ∨
       (e = .resetInput ∧ t = State.hardReset { s with inbox := rest }) ∨
       (∃ p, e = .attach p ∧ s.cfgWritable = true ∧ t = { s with inbox := rest, platform := p })) := by
  unfold step State.stepInbox at h
  split at h
  · next hi => injection h with h; exact .inl ⟨hi, h.symm⟩
  · next e rest hi =>
    refine .inr ⟨e, rest, hi, ?_⟩
    cases e with
    | transaction w => exact .inl ⟨w, rfl, h⟩
    | resetInput => injection h with h; exact .inr (.inl ⟨rfl, h.symm⟩)
    | attach p =>
      have hw : State.cfgWritable { s with inbox := rest } = s.cfgWritable := rfl
      simp only [State.takeEvent, State.attachPlatform, hw] at h
      split at h
      · next hc => injection h with h; exact .inr (.inr ⟨p, rfl, hc, h.symm⟩)
      · cases h

end

end Sys2Proof.Machine
end

