-- ==== Sys2Proof/Laws/Datapath.lean ====
section
/-! SUPPORT. The shapes of what the datapath's functions give, and the small facts of the mask functions. -/

namespace Sys2Proof.Machine

theorem length_normalizeFrame (b : List Byte) : (normalizeFrame b).length = b.length / 4 := by
  induction b using normalizeFrame.induct with
  | case1 b0 b1 b2 b3 rest ih => simp only [normalizeFrame, List.length_cons, ih]; omega
  | case2 b h =>
    match b, h with
    | [], _ => rfl
    | [_], _ => simp [normalizeFrame]
    | [_, _], _ => simp [normalizeFrame]
    | [_, _, _], _ => simp [normalizeFrame]
    | b0 :: b1 :: b2 :: b3 :: rest, h => exact absurd rfl (h b0 b1 b2 b3 rest)

theorem popcount_le (m : Word) : popcount m ≤ Config.lines := by
  have := List.length_filter_le (fun i => m.getLsbD i) (List.range Config.lines)
  simpa [popcount, setBits] using this

@[simp] theorem length_setBits (m : Word) : (setBits m).length = popcount m := rfl

theorem mem_setBits (m : Word) (p : Nat) : p ∈ setBits m ↔ p < Config.lines ∧ m.getLsbD p = true := by
  simp [setBits]

@[simp] theorem length_demux (fb : Memory Word) (m : Word) : (demux fb m).length = popcount m := by
  simp [demux]

@[simp] theorem length_demuxPlane (fb : Memory Word) (p : Nat) : (demuxPlane fb p).length = Config.nSamples := by
  simp [demuxPlane]

theorem length_of_mem_demux (fb : Memory Word) (m : Word) : ∀ r ∈ demux fb m, r.length = Config.nSamples := by
  simp [demux]

@[simp] theorem length_lookups (map : List MapEntry) (planes cpc : Nat) :
    (lookups map planes cpc).length = planes := by
  simp [lookups]

theorem length_of_mem_lookups (map : List MapEntry) (planes cpc : Nat) :
    ∀ r ∈ lookups map planes cpc, r.length = cpc := by
  simp [lookups]

@[simp] theorem State.length_recordAt_samples (s : State) (k : Nat) :
    (s.recordAt k).samples.length = Config.nSamples := by
  simp [State.recordAt]

@[simp] theorem State.length_recordAt_geom (s : State) (k : Nat) : (s.recordAt k).geom.length = s.cpc := by
  simp [State.recordAt]

/-- An id the map gives is one of its entries'. -/
theorem mapLookup_mem (map : List MapEntry) (k c : Nat) {v : GeomId} (h : mapLookup map k c = some v) :
    ∃ e ∈ map, e.id = v := by
  induction map with
  | nil => simp [mapLookup] at h
  | cons e rest ih =>
    simp only [mapLookup] at h
    split at h
    · injection h with h; exact ⟨e, by simp, h⟩
    · obtain ⟨e', he', hv⟩ := ih h
      exact ⟨e', by simp [he'], hv⟩

/-- A bound on the map's ids bounds every looked-up id, the sentinel included. -/
theorem geomIdOf_lt (map : List MapEntry) (k c w : Nat) (h : ∀ e ∈ map, e.id < 2 ^ w) :
    geomIdOf map k c < 2 ^ w := by
  unfold geomIdOf
  split
  · exact Nat.two_pow_pos w
  · next v hv =>
    obtain ⟨e, he, rfl⟩ := mapLookup_mem map k c hv
    exact h e he

/-- The rows of the mask table (41_mask_and_config R120): a board count and its mask. -/
def maskRows : List (Word × Word) :=
  [(1, 0x0f000000), (2, 0xff000000), (3, 0xff0f0000), (4, 0xffff0000),
   (5, 0xffff0f00), (6, 0xffffff00), (7, 0xffffff0f), (8, 0xffffffff)]

/-- A board count with a mask is a row of the table. -/
theorem maskOf_mem {b m : Word} (h : maskOf b = some m) : (b, m) ∈ maskRows := by
  have hb' : b = BitVec.ofNat 32 b.toNat := by simp
  unfold maskOf at h
  split at h <;> first
    | (next hb => rw [hb] at hb'; injection h with h; rw [hb', ← h]; simp [maskRows])
    | cases h

/-- The bit count law (41_mask_and_config R122): four set bits a board. -/
theorem popcount_maskOf {b m : Word} (h : maskOf b = some m) : popcount m = 4 * b.toNat := by
  have rows : ∀ e ∈ maskRows, popcount e.2 = 4 * e.1.toNat := by
    simp only [maskRows, List.forall_mem_cons, List.not_mem_nil, false_implies, implies_true, and_true]
    decide
  exact rows _ (maskOf_mem h)

/-- WORDS_NEEDED as a number (00_scope R5). -/
theorem wordsNeeded_eq : Config.wordsNeeded = 30785 := rfl

/-- The board counts with a mask are 1 to 8. -/
theorem maskOf_isSome (b : Word) : (maskOf b).isSome = true ↔ 1 ≤ b.toNat ∧ b.toNat ≤ 8 := by
  unfold maskOf
  split <;> simp_all
  omega

end Sys2Proof.Machine
end

