-- ==== Sys2Proof/Laws/Encoding.lean ====
section
/-! SUPPORT. Packing a descriptor's fields into a word and reading them back lose nothing, in both directions. -/

namespace Sys2Proof

/-- The bits of a packed descriptor (30_encoding R80): DATA, then OFFSET, RSVD and RW above it. -/
theorem Descriptor.getLsbD_toWord (d : Descriptor) (i : Nat) (hi : i < 48) :
    d.toWord.getLsbD i =
      if i < 32 then d.data.getLsbD i
      else if i < 40 then d.offset.getLsbD (i - 32)
      else if i < 47 then d.rsvd.getLsbD (i - 40)
      else d.write := by
  have low : ∀ {w : Nat} (x : BitVec w) (n : Nat), w ≤ n → x.getLsbD n = false := fun x n h =>
    BitVec.getLsbD_of_ge x n h
  obtain ⟨w, r, o, v⟩ := d
  simp only [Descriptor.toWord, BitVec.getLsbD_or, BitVec.getLsbD_shiftLeft, BitVec.getLsbD_setWidth]
  by_cases h1 : i < 32
  · simp [hi, h1, show i < 47 by omega, show i < 40 by omega]
  · by_cases h2 : i < 40
    · simp [hi, h1, h2, show i < 47 by omega, show i - 32 < 48 by omega, low v i (by omega)]
    · by_cases h3 : i < 47
      · simp [hi, h1, h2, h3, show i - 32 < 48 by omega, show i - 40 < 48 by omega, low v i (by omega),
          low o (i - 32) (by omega)]
      · have h4 : i = 47 := by omega
        subst h4
        simp

/-- The fields of a packed descriptor are the ones packed (30_encoding R80). -/
theorem Descriptor.ofWord_toWord (d : Descriptor) : Descriptor.ofWord d.toWord = d := by
  have h := d.getLsbD_toWord
  obtain ⟨w, r, o, v⟩ := d
  simp only [Descriptor.ofWord, Descriptor.mk.injEq]
  refine ⟨by rw [h 47 (by omega)]; simp, ?_, ?_, ?_⟩
  all_goals
    apply BitVec.eq_of_getLsbD_eq
    intro i hi
    rw [BitVec.getLsbD_extractLsb', h _ (by omega)]
  · simp [hi, show ¬ 40 + i < 32 by omega, show ¬ 40 + i < 40 by omega, show 40 + i < 47 by omega]
  · simp [hi, show ¬ 32 + i < 32 by omega, show 32 + i < 40 by omega]
  · simp [hi]

/-- A word is what its fields pack to (30_encoding R80). -/
theorem Descriptor.toWord_ofWord (w : HostWord) : (Descriptor.ofWord w).toWord = w := by
  apply BitVec.eq_of_getLsbD_eq
  intro i hi
  rw [Descriptor.getLsbD_toWord _ i hi]
  simp only [Descriptor.ofWord, BitVec.getLsbD_extractLsb']
  by_cases h1 : i < 32
  · simp [h1]
  · by_cases h2 : i < 40
    · simp [h1, h2, show i - 32 < 8 by omega, show 32 + (i - 32) = i by omega]
    · by_cases h3 : i < 47
      · simp [h1, h2, h3, show i - 40 < 7 by omega, show 40 + (i - 40) = i by omega]
      · have h4 : i = 47 := by omega
        subst h4
        simp

/-- A read decodes to the instruction whose descriptor it is (30_encoding R82). -/
theorem decodeRead_descriptor {o : BitVec 8} {i : Instr} (h : decodeRead o = some i) :
    encodeDescriptor i = .rd o := by
  have ho : o = BitVec.ofNat 8 o.toNat := by simp
  unfold decodeRead at h
  split at h <;> first
    | (next hb => rw [hb] at ho; injection h with h; rw [ho, ← h]; rfl)
    | cases h

/-- A write decodes to the instruction whose descriptor it is, its DATA whole (30_encoding R82, R86). -/
theorem decodeWrite_descriptor {o : BitVec 8} {v : Word} {i : Instr} (h : decodeWrite o v = some i) :
    encodeDescriptor i = .wr o v := by
  have ho : o = BitVec.ofNat 8 o.toNat := by simp
  unfold decodeWrite at h
  split at h <;> first
    | (next hb => rw [hb] at ho; injection h with h; rw [ho, ← h]; rfl)
    | cases h

end Sys2Proof
end

