-- ==== Sys2Proof/Laws/PerInstr.lean ====
section
/-! SUPPORT. The per-instruction family: the host word of every instruction is a well-formed descriptor whose fields are the
ones the encoder chose (30_encoding R80, R81). -/

namespace Sys2Proof.Laws.HostWordShape

open Sys2Proof

/-- The word of `i` has exactly the fields of its descriptor, and none of its reserved bits is set. -/
def Statement (i : Instr) : Prop :=
  Descriptor.ofWord (encode i) = encodeDescriptor i ∧ (Descriptor.ofWord (encode i)).wellFormed = true

/-- One instruction's statement, from the well-formedness of its descriptor. -/
theorem of_wellFormed (i : Instr) (h : (encodeDescriptor i).wellFormed = true) : Statement i := by
  have hf : Descriptor.ofWord (encode i) = encodeDescriptor i := Descriptor.ofWord_toWord _
  exact ⟨hf, by rw [hf]; exact h⟩

theorem nop : Statement .nop := of_wellFormed _ rfl
theorem start : Statement .start := of_wellFormed _ rfl
theorem nextEvent : Statement .nextEvent := of_wellFormed _ rfl
theorem sessionReset : Statement .sessionReset := of_wellFormed _ rfl
theorem rdCtrl : Statement .rdCtrl := of_wellFormed _ rfl
theorem rdStatus : Statement .rdStatus := of_wellFormed _ rfl
theorem rdErrInfo : Statement .rdErrInfo := of_wellFormed _ rfl
theorem rdEventCountLo : Statement .rdEventCountLo := of_wellFormed _ rfl
theorem rdEventCountHi : Statement .rdEventCountHi := of_wellFormed _ rfl
theorem rdActiveMask : Statement .rdActiveMask := of_wellFormed _ rfl
theorem rdActivePlanes : Statement .rdActivePlanes := of_wellFormed _ rfl
theorem rdBoardCount : Statement .rdBoardCount := of_wellFormed _ rfl
theorem rdWordsPerEvent : Statement .rdWordsPerEvent := of_wellFormed _ rfl
theorem rdChannelsPerChip : Statement .rdChannelsPerChip := of_wellFormed _ rfl
theorem rdHexaboardCount : Statement .rdHexaboardCount := of_wellFormed _ rfl
theorem rdChipsPerHexaboard : Statement .rdChipsPerHexaboard := of_wellFormed _ rfl
theorem rdOutputKey : Statement .rdOutputKey := of_wellFormed _ rfl
theorem rdCapWpeMax : Statement .rdCapWpeMax := of_wellFormed _ rfl
theorem rdCapCpcMax : Statement .rdCapCpcMax := of_wellFormed _ rfl
theorem wrCtrl (v : Word) : Statement (.wrCtrl v) := of_wellFormed _ rfl
theorem wrStatus (v : Word) : Statement (.wrStatus v) := of_wellFormed _ rfl
theorem wrErrInfo (v : Word) : Statement (.wrErrInfo v) := of_wellFormed _ rfl
theorem wrEventCountLo (v : Word) : Statement (.wrEventCountLo v) := of_wellFormed _ rfl
theorem wrEventCountHi (v : Word) : Statement (.wrEventCountHi v) := of_wellFormed _ rfl
theorem wrActiveMask (v : Word) : Statement (.wrActiveMask v) := of_wellFormed _ rfl
theorem wrActivePlanes (v : Word) : Statement (.wrActivePlanes v) := of_wellFormed _ rfl
theorem wrBoardCount (v : Word) : Statement (.wrBoardCount v) := of_wellFormed _ rfl
theorem wrWordsPerEvent (v : Word) : Statement (.wrWordsPerEvent v) := of_wellFormed _ rfl
theorem wrChannelsPerChip (v : Word) : Statement (.wrChannelsPerChip v) := of_wellFormed _ rfl
theorem wrHexaboardCount (v : Word) : Statement (.wrHexaboardCount v) := of_wellFormed _ rfl
theorem wrChipsPerHexaboard (v : Word) : Statement (.wrChipsPerHexaboard v) := of_wellFormed _ rfl
theorem wrOutputKey (v : Word) : Statement (.wrOutputKey v) := of_wellFormed _ rfl
theorem wrCapWpeMax (v : Word) : Statement (.wrCapWpeMax v) := of_wellFormed _ rfl
theorem wrCapCpcMax (v : Word) : Statement (.wrCapCpcMax v) := of_wellFormed _ rfl

end Sys2Proof.Laws.HostWordShape
end

