-- ==== Sys2Proof/Machine/Assembler.lean ====
section
/-! DEFINITION. The notation of host programs (30_encoding R88, R89): one line of text to its HTX48 descriptors. It is
notation only (92 D30), so no rule of the block depends on it. Log entry 21. -/

namespace Sys2Proof.Machine

/-- The offset of a register name (10_state R21). -/
def regOffset (name : List Char) : Option (BitVec 8) :=
  if name = "CTRL".toList then some 0x00
  else if name = "STATUS".toList then some 0x04
  else if name = "ERR_INFO".toList then some 0x08
  else if name = "EVENT_COUNT_LO".toList then some 0x0C
  else if name = "EVENT_COUNT_HI".toList then some 0x10
  else if name = "ACTIVE_MASK".toList then some 0x14
  else if name = "ACTIVE_PLANES".toList then some 0x18
  else if name = "BOARD_COUNT".toList then some 0x1C
  else if name = "WORDS_PER_EVENT".toList then some 0x20
  else if name = "CHANNELS_PER_CHIP".toList then some 0x24
  else if name = "HEXABOARD_COUNT".toList then some 0x28
  else if name = "CHIPS_PER_HEXABOARD".toList then some 0x2C
  else if name = "OUTPUT_KEY".toList then some 0x30
  else if name = "CAP_WPE_MAX".toList then some 0x34
  else if name = "CAP_CPC_MAX".toList then some 0x38
  else none

/-- The value of a digit below the base. -/
def digitValue (base : Nat) (c : Char) : Option Nat :=
  let n := c.toNat
  let v :=
    if 48 ≤ n ∧ n ≤ 57 then n - 48
    else if 65 ≤ n ∧ n ≤ 70 then n - 55
    else if 97 ≤ n ∧ n ≤ 102 then n - 87
    else base
  if v < base then some v else none

/-- The number a run of digits stands for. -/
def digitsValue (base : Nat) : Nat → List Char → Option Nat
  | acc, [] => some acc
  | acc, c :: cs =>
    match digitValue base c with
    | some d => digitsValue base (acc * base + d) cs
    | none => none

/-- A decimal or `0x` hexadecimal number (R88). -/
def numberOf : List Char → Option Nat
  | '0' :: 'x' :: c :: cs => digitsValue 16 0 (c :: cs)
  | [] => none
  | c :: cs => digitsValue 10 0 (c :: cs)

/-- `<value>`: a number below 2^32 (R88). -/
def valueOf (t : List Char) : Option Word :=
  match numberOf t with
  | some n => if n < 2 ^ 32 then some (BitVec.ofNat 32 n) else none
  | none => none

/-- `<reg>`: a register name, or a numeric offset `0xNN` (R88). -/
def regOf (t : List Char) : Option (BitVec 8) :=
  match regOffset t with
  | some o => some o
  | none =>
    match t with
    | ['0', 'x', a, b] =>
      match digitsValue 16 0 [a, b] with
      | some n => some (BitVec.ofNat 8 n)
      | none => none
    | _ => none

/-- The words of a line up to its comment (R88); a comma is a word of its own. -/
def tokens : List Char → List Char → List (List Char)
  | cur, [] => if cur = [] then [] else [cur]
  | cur, c :: cs =>
    let done := if cur = [] then [] else [cur]
    if c = ';' then done
    else if c = ' ' then done ++ tokens [] cs
    else if c = ',' then done ++ [[',']] ++ tokens [] cs
    else tokens (cur ++ [c]) cs

/-- `WR <reg>, <value>` (R88). -/
def asmWr (r v : List Char) : Option (List HostWord) :=
  match regOf r, valueOf v with
  | some o, some n => some [(Descriptor.wr o n).toWord]
  | _, _ => none

/-- `RD <reg>` (R88). -/
def asmRd (r : List Char) : Option (List HostWord) :=
  match regOf r with
  | some o => some [(Descriptor.rd o).toWord]
  | none => none

/-- The transactions of one line (R88, R89); `none`: it is no line of the notation. `RD <reg> -> <v>` only states the
value a test expects. -/
def assembleLine (line : List Char) : Option (List HostWord) :=
  match tokens [] line with
  | [] => some []
  | [op] =>
    if op = "NOP".toList then some [encode .nop]
    else if op = "START".toList then some [encode .start]
    else if op = "NEXT".toList then some [encode .nextEvent]
    else if op = "SRESET".toList then some [encode .sessionReset]
    else if op = "POLL".toList then some [asmPoll]
    else none
  | [op, r] => if op = "RD".toList then asmRd r else none
  | [op, r, sep, v] =>
    if op = "WR".toList ∧ sep = [','] then asmWr r v
    else if op = "RD".toList ∧ sep = "->".toList then (valueOf v).bind fun _ => asmRd r
    else none
  | [op, b, sep, w, sep', c] =>
    if op = "CONFIG".toList ∧ sep = [','] ∧ sep' = [','] then
      match valueOf b, valueOf w, valueOf c with
      | some nb, some nw, some nc => some (asmConfig nb nw nc)
      | _, _, _ => none
    else none
  | _ => none

end Sys2Proof.Machine
end

