-- ==== Sys2Proof/Tests/Slice0.lean ====
section
/-! SUPPORT. Tests of one step or one function on small states, each expected value taken from the vectors of
95_test_vectors or worked out by hand from the rule named, then the witnesses: for every statement with hypotheses, values
that meet them. -/

namespace Sys2Proof.Tests

open Sys2Proof Sys2Proof.Machine

/-! ### Helpers -/

/-- The next state of an outcome. -/
def nextOf (o : Host.Outcome State Fault Refusal) : Option State :=
  match o with
  | .next s => some s
  | .fault _ => none
  | .refused _ => none

/-- The refusal of an outcome. -/
def refusalOf (o : Host.Outcome State Fault Refusal) : Option Refusal :=
  match o with
  | .next _ => none
  | .fault _ => none
  | .refused r => some r

/-- The last read result of an outcome. -/
def resultOf (o : Host.Outcome State Fault Refusal) : Option Word := (nextOf o).bind fun s => s.results.getLast?

/-- A state with one transaction pending. -/
def send (s : State) (w : HostWord) : State := { s with inbox := [.transaction w] }

/-- A fresh session with the given BOARD_COUNT, WORDS_PER_EVENT, CHANNELS_PER_CHIP and map_ready. -/
def fresh (b w c : Word) (ready : Bool) : State :=
  { State.reset with
    cfg := { CfgRegs.reset with boardCount := b, wordsPerEvent := w, channelsPerChip := c }
    platform := { Platform.default with mapReady := ready } }

/-- A session started with a board count and its mask, the source of the given bytes and length, and scripted draws. -/
def ready (b m : Word) (bytes : List Host.Cell) (len : Nat) (opens errs : List Bool) : State :=
  { fresh b 30788 64 true with
    session := { Session.reset with cfgOk := true, activeMask := m }
    platform := { Platform.default with srcBytes := bytes, srcLen := len }
    openDraws := opens
    ioErrDraws := errs }

/-- A session in READING with a given event count. -/
def reading (b m : Word) (bytes : List Host.Cell) (len : Nat) (errs : List Bool) (n : Counter) : State :=
  let s := ready b m bytes len [] errs
  { s with session := { s.session with phase := .reading, srcOpen := true, eventValid := true, ec := n } }

/-- A session ended by StreamEnd with CMD_ERR set. -/
def ended : State :=
  let s := ready 1 0x0f000000 [] 0 [] []
  { s with session := { s.session with phase := .exhausted, cause := .streamEnd, srcOpen := true, cmdErr := true } }

/-- The all-busy state of no run, for the gate of R189. -/
def busyState : State := { fresh 1 30788 64 true with busy := true }

/-! ### Well-formedness (30_encoding R81) -/

theorem test_wf_valid_write : Descriptor.wellFormed ⟨true, 0, 0x1C, 8⟩ = true := by decide
theorem test_wf_valid_read : Descriptor.wellFormed ⟨false, 0, 0x04, 0⟩ = true := by decide
theorem test_wf_refuses_reserved_bits : Descriptor.wellFormed ⟨true, 1, 0x00, 0⟩ = false := by decide
theorem test_wf_refuses_read_data : Descriptor.wellFormed ⟨false, 0, 0x04, 1⟩ = false := by decide
theorem test_wf_reserved_clear : Descriptor.reservedClear ⟨false, 0x40, 0x04, 0⟩ = false := by decide
theorem test_wf_read_data_clear : Descriptor.readDataClear ⟨false, 0, 0x04, 0x80000000⟩ = false := by decide
theorem test_wf_memory_refuses_zero : Memory.wf ([(3, 0)] : Memory Byte) = false := by decide
theorem test_wf_memory_refuses_order : Memory.wf ([(3, 1), (2, 1)] : Memory Byte) = false := by decide
theorem test_wf_memory_refuses_repeat : Memory.wf ([(3, 1), (3, 2)] : Memory Byte) = false := by decide
theorem test_wf_params_refuse_small : Params.wf ⟨30787, 64, 32, .countsOk⟩ = false := by decide
theorem test_wf_params_refuse_channels : Params.wf ⟨30788, 63, 32, .countsOk⟩ = false := by decide
theorem test_wf_params_refuse_width : Params.wf ⟨30788, 64, 0, .countsOk⟩ = false := by decide
theorem test_wf_platform_refuses_plane :
    Platform.wf Params.default { Platform.default with map := [⟨32, 0, 1⟩] } = false := by decide
theorem test_wf_platform_refuses_wide_id :
    Platform.wf Params.default { Platform.default with map := [⟨0, 0, 2 ^ 32⟩] } = false := by decide
theorem test_wf_platform_refuses_byte_past_end :
    Platform.wf Params.default { Platform.default with srcBytes := [(5, 1)], srcLen := 5 } = false := by decide

/-! ### Decoding, words written out from 30_encoding R84, R90 and 95_test_vectors 2.1 and 3 -/

theorem test_decode_nop : decodeCmd32 0x00000000 = some .nop := by decide
theorem test_decode_start : decodeCmd32 0x00000001 = some .start := by decide
theorem test_decode_nextEvent : decodeCmd32 0x00000002 = some .nextEvent := by decide
theorem test_decode_sessionReset : decodeCmd32 0x00000003 = some .sessionReset := by decide
theorem test_decode_reserved_command : decodeCmd32 0x00000012 = none ∧ decodeCmd32 4 = none := by decide
theorem test_decode_rdCtrl : decode 0x000000000000 = .instr .rdCtrl := by decide
theorem test_decode_rdStatus : decode 0x000400000000 = .instr .rdStatus := by decide
theorem test_decode_rdErrInfo : decode 0x000800000000 = .instr .rdErrInfo := by decide
theorem test_decode_rdEventCountLo : decode 0x000C00000000 = .instr .rdEventCountLo := by decide
theorem test_decode_rdEventCountHi : decode 0x001000000000 = .instr .rdEventCountHi := by decide
theorem test_decode_rdActiveMask : decode 0x001400000000 = .instr .rdActiveMask := by decide
theorem test_decode_rdActivePlanes : decode 0x001800000000 = .instr .rdActivePlanes := by decide
theorem test_decode_rdBoardCount : decode 0x001C00000000 = .instr .rdBoardCount := by decide
theorem test_decode_rdWordsPerEvent : decode 0x002000000000 = .instr .rdWordsPerEvent := by decide
theorem test_decode_rdChannelsPerChip : decode 0x002400000000 = .instr .rdChannelsPerChip := by decide
theorem test_decode_rdHexaboardCount : decode 0x002800000000 = .instr .rdHexaboardCount := by decide
theorem test_decode_rdChipsPerHexaboard : decode 0x002C00000000 = .instr .rdChipsPerHexaboard := by decide
theorem test_decode_rdOutputKey : decode 0x003000000000 = .instr .rdOutputKey := by decide
theorem test_decode_rdCapWpeMax : decode 0x003400000000 = .instr .rdCapWpeMax := by decide
theorem test_decode_rdCapCpcMax : decode 0x003800000000 = .instr .rdCapCpcMax := by decide
theorem test_decode_wrCtrl : decode 0x8000FFFFFFFF = .instr (.wrCtrl 0xFFFFFFFF) := by decide
theorem test_decode_wrStatus : decode 0x800480000000 = .instr (.wrStatus 0x80000000) := by decide
theorem test_decode_wrErrInfo : decode 0x800800000001 = .instr (.wrErrInfo 1) := by decide
theorem test_decode_wrEventCountLo : decode 0x800C00000005 = .instr (.wrEventCountLo 5) := by decide
theorem test_decode_wrEventCountHi : decode 0x801000000005 = .instr (.wrEventCountHi 5) := by decide
theorem test_decode_wrActiveMask : decode 0x8014FFFFFFFF = .instr (.wrActiveMask 0xFFFFFFFF) := by decide
theorem test_decode_wrActivePlanes : decode 0x801800000004 = .instr (.wrActivePlanes 4) := by decide
theorem test_decode_wrBoardCount : decode 0x801C00000008 = .instr (.wrBoardCount 8) := by decide
theorem test_decode_wrWordsPerEvent : decode 0x802000007841 = .instr (.wrWordsPerEvent 30785) := by decide
theorem test_decode_wrChannelsPerChip : decode 0x802400000040 = .instr (.wrChannelsPerChip 64) := by decide
theorem test_decode_wrHexaboardCount : decode 0x802812345678 = .instr (.wrHexaboardCount 0x12345678) := by decide
theorem test_decode_wrChipsPerHexaboard : decode 0x802C00000002 = .instr (.wrChipsPerHexaboard 2) := by decide
theorem test_decode_wrOutputKey : decode 0x80300000005A = .instr (.wrOutputKey 0x5A) := by decide
theorem test_decode_wrCapWpeMax : decode 0x803400000001 = .instr (.wrCapWpeMax 1) := by decide
theorem test_decode_wrCapCpcMax : decode 0x803800000001 = .instr (.wrCapCpcMax 1) := by decide
theorem test_decode_unassigned_read : decode 0x000500000000 = .unassignedRead 0x05 := by decide
theorem test_decode_unassigned_write : decode 0x803C00000005 = .unassignedWrite 0x3C 5 := by decide
theorem test_decode_reserved_rsvd : decode 0x810000000000 = .reservedBits := by decide
theorem test_decode_reserved_read_data : decode 0x000400000001 = .reservedBits := by decide
theorem test_decode_top_offset : decode 0x00FC00000000 = .unassignedRead 0xFC := by decide

/-- The table's two formats (30_encoding R87). -/
theorem test_tableWord_formats : decodeTableWord 32 2 = some .nextEvent ∧
    decodeTableWord 48 0x801C00000001 = some (.wrBoardCount 1) ∧ decodeTableWord 32 5 = none ∧
    decodeTableWord 48 0x010000000000 = none := by decide

/-! ### The host notation (30_encoding R88, R89; 95_test_vectors 2.1) -/

theorem test_asm_next : assembleLine "NEXT ; the next event".toList = some [0x800000000002] := by decide
theorem test_asm_start : assembleLine "START".toList = some [0x800000000001] := by decide
theorem test_asm_wr_decimal :
    assembleLine "WR WORDS_PER_EVENT, 30785".toList = some [0x802000007841] := by decide
theorem test_asm_wr_hex_offset : assembleLine "WR 0x3C, 5".toList = some [0x803C00000005] := by decide
theorem test_asm_rd_expected :
    assembleLine "RD EVENT_COUNT_HI -> 0x0".toList = some [0x001000000000] := by decide
theorem test_asm_poll : assembleLine "POLL".toList = some [0x000400000000] := by decide
theorem test_asm_config : assembleLine "CONFIG 1, 30788, 64".toList =
    some [0x801C00000001, 0x802000007844, 0x802400000040] := by decide
theorem test_asm_refuses_wide_value : assembleLine "WR CTRL, 0x100000000".toList = none := by decide

/-! ### The reset state and the register reads (95_test_vectors 2.2) -/

theorem test_reset_memories : State.reset.DataInv := by
  refine ⟨by decide, by decide, by simp [State.reset], by decide, by decide, ?_⟩
  refine ⟨by decide, fun m hm => ?_⟩
  simp only [State.reset, Session.reset, List.mem_replicate] at hm
  rw [hm.2]; simp; decide

theorem test_rdStatus_reset : resultOf (step (send State.reset 0x000400000000)) = some 0x00000080 := by decide
theorem test_rdStatus_terminal : resultOf (exec .rdStatus ended) = some 0x000003AB := by decide
theorem test_rdCtrl : resultOf (step (send State.reset 0x000000000000)) = some 0 := by decide
theorem test_rdErrInfo :
    resultOf (exec .rdErrInfo (State.reset.raise (.recordValidationError 31))) = some 0x00001F00 := by decide
theorem test_rdEventCountLo :
    resultOf (exec .rdEventCountLo (reading 1 0x0f000000 [] 0 [] 0x123456789A)) = some 0x3456789A := by decide
theorem test_rdEventCountHi :
    resultOf (exec .rdEventCountHi (reading 1 0x0f000000 [] 0 [] 0x123456789A)) = some 0x12 := by decide
theorem test_rdActiveMask : resultOf (exec .rdActiveMask (ready 5 0xffff0f00 [] 0 [] [])) = some 0xffff0f00 := by
  decide
theorem test_rdActivePlanes : resultOf (exec .rdActivePlanes (ready 8 0xffffffff [] 0 [] [])) = some 32 := by decide
theorem test_rdBoardCount : resultOf (exec .rdBoardCount (fresh 9 0 0 true)) = some 9 := by decide
theorem test_rdWordsPerEvent : resultOf (step (send State.reset 0x002000000000)) = some 0x00007844 := by decide
theorem test_rdChannelsPerChip : resultOf (step (send State.reset 0x002400000000)) = some 0x00000040 := by decide
theorem test_rdHexaboardCount : resultOf (step (send State.reset 0x002800000000)) = some 0 := by decide
theorem test_rdChipsPerHexaboard : resultOf (step (send State.reset 0x002C00000000)) = some 0 := by decide
theorem test_rdOutputKey : resultOf (step (send State.reset 0x003000000000)) = some 0 := by decide
theorem test_rdCapWpeMax : resultOf (step (send State.reset 0x003400000000)) = some 0x00007844 := by decide
theorem test_rdCapCpcMax : resultOf (step (send State.reset 0x003800000000)) = some 0x00000040 := by decide
theorem test_rd_unassigned : resultOf (step (send State.reset 0x000500000000)) = some 0 := by decide

/-! ### The register writes (95_test_vectors 2.2, ST14) -/

/-- The status a state reads, after an outcome. -/
def statusOf (o : Host.Outcome State Fault Refusal) : Option Word := (nextOf o).map State.statusWord

theorem test_wrBoardCount : (nextOf (step (send State.reset 0x801CFFFFFFFF))).map (·.cfg.boardCount) =
    some 0xFFFFFFFF := by decide
theorem test_wrWordsPerEvent_locked :
    (nextOf (exec (.wrWordsPerEvent 30785) (ready 1 0x0f000000 [] 0 [] []))).map
      (fun s => (s.cfg.wordsPerEvent, s.statusWord)) = some (30788, 0x000000A8) := by decide
theorem test_wrChannelsPerChip : (nextOf (exec (.wrChannelsPerChip 1) State.reset)).map (·.cfg.channelsPerChip) =
    some 1 := by decide
theorem test_wrHexaboardCount : (nextOf (exec (.wrHexaboardCount 0x12345678) State.reset)).map
    (·.cfg.hexaboardCount) = some 0x12345678 := by decide
theorem test_wrChipsPerHexaboard : (nextOf (exec (.wrChipsPerHexaboard 3) State.reset)).map
    (·.cfg.chipsPerHexaboard) = some 3 := by decide
theorem test_wrOutputKey : (nextOf (exec (.wrOutputKey 0x5A) State.reset)).map (·.cfg.outputKey) = some 0x5A := by
  decide
theorem test_wrStatus : statusOf (exec (.wrStatus 0xFFFFFFFF) State.reset) = some 0x00000080 := by decide
theorem test_wrErrInfo : (nextOf (exec (.wrErrInfo 0xFFFFFFFF) State.reset)).map (·.session.errInfo.word) =
    some 0 := by decide
theorem test_wrEventCountLo : (nextOf (exec (.wrEventCountLo 5) State.reset)).map (·.session.ec) = some 0 := by
  decide
theorem test_wrEventCountHi : (nextOf (exec (.wrEventCountHi 5) State.reset)).map (·.session.ec) = some 0 := by
  decide
theorem test_wrActiveMask : (nextOf (exec (.wrActiveMask 0xFFFFFFFF) State.reset)).map (·.session.activeMask) =
    some 0 := by decide
theorem test_wrActivePlanes : (nextOf (exec (.wrActivePlanes 4) State.reset)).map State.planes = some 0 := by decide
theorem test_wrCapWpeMax : (nextOf (exec (.wrCapWpeMax 1) State.reset)).map (·.params.wpeMax) = some 30788 := by
  decide
theorem test_wrCapCpcMax : (nextOf (exec (.wrCapCpcMax 1) State.reset)).map (·.params.cpcMax) = some 64 := by decide
theorem test_wr_unassigned : statusOf (step (send State.reset 0x803C00000005)) = some 0x00000080 := by decide
theorem test_wrCtrl_reserved : statusOf (step (send State.reset 0x800000000012)) = some 0x000000A0 := by decide
theorem test_wrCtrl_runs_start : statusOf (step (send (fresh 1 30788 64 true) 0x800000000001)) =
    some 0x00000088 := by decide
theorem test_wr_busy : statusOf (exec (.wrOutputKey 1) busyState) = some 0x000000E0 := by decide

/-! ### START (95_test_vectors 2.4) -/

/-- STATUS and ERR_INFO after START. -/
def startOf (b w c : Word) (r : Bool) : Option (Word × Word) :=
  (nextOf (exec .start (fresh b w c r))).map fun s => (s.statusWord, s.session.errInfo.word)

/-- MC9–MC12, MC16–MC18, MC20–MC23. -/
theorem test_start_fails : startOf 0 30788 64 true = some (0x00000184, 1) ∧
    startOf 9 30788 64 true = some (0x00000184, 1) ∧ startOf 0xFFFFFFFF 30788 64 true = some (0x00000184, 1) ∧
    startOf 1 30784 64 true = some (0x00000184, 2) ∧ startOf 1 30789 64 true = some (0x00000184, 3) ∧
    startOf 1 30788 0 true = some (0x00000184, 4) ∧ startOf 1 30788 65 true = some (0x00000184, 4) ∧
    startOf 1 30788 64 false = some (0x00000204, 0) ∧ startOf 0 0 0 false = some (0x00000104, 1) ∧
    startOf 2 30784 0 false = some (0x00000104, 2) ∧ startOf 2 30788 0 false = some (0x00000104, 4) := by decide
/-- MC14, MC19, MC24. -/
theorem test_start_passes : startOf 1 30785 64 true = some (0x00000088, 0) ∧
    startOf 1 30788 1 true = some (0x00000088, 0) ∧
    (nextOf (exec .start (fresh 5 30788 64 true))).map
      (fun s => (s.session.activeMask, s.activePlanesWord)) = some (0xffff0f00, 20) := by decide
theorem test_pos_MC3 : pos 0xff0f0000 3 = 19 ∧ pos 0xff0f0000 4 = 24 ∧ pos 0xff0f0000 11 = 31 := by decide
theorem test_pos_MC7 : pos 0xffffff0f 3 = 3 ∧ pos 0xffffff0f 4 = 8 ∧ pos 0xffffff0f 27 = 31 := by decide
theorem test_rank : rank 0xff0f0000 24 = 4 ∧ rank 0xff0f0000 16 = 0 ∧ rank 0xffffff0f 31 = 27 := by decide

/-! ### NOP, NEXT_EVENT, SESSION_RESET (95_test_vectors 2.3, 2.7, P6) -/

theorem test_nop_terminal : statusOf (step (send ended 0x800000000000)) = some 0x000003AB := by decide
theorem test_sessionReset : statusOf (step (send ended 0x800000000003)) = some 0x00000080 := by decide
/-- ST5, ST11. -/
theorem test_nextEvent_requests_nothing :
    (nextOf (step (send State.reset 0x800000000002))).map (fun s => (s.statusWord, s.srcLog)) =
      some (0x000000A0, []) ∧
    (nextOf (exec .nextEvent ended)).map (fun s => (s.statusWord, s.srcLog)) = some (0x000003AB, []) := by decide
/-- What a stopped event leaves: STATUS, ERR_INFO, EC, the scripted read draws left and the requests. -/
def stopOf (s : State) : Option (Word × Word × Counter × List Bool × List SrcRequest) :=
  (nextOf (exec .nextEvent s)).map fun t =>
    (t.statusWord, t.session.errInfo.word, t.session.ec, t.ioErrDraws, t.srcLog)
/-- FR10, FR12, FR14, FR15, FR16. -/
theorem test_nextEvent_stops :
    stopOf (ready 1 0x0f000000 [] 123151 [true] []) =
      some (0x0000038B, 0, 0, [], [.srcOpen, .srcRead 0 123152]) ∧
    stopOf (reading 1 0x0f000000 [] 369456 [] 3) = some (0x0000038B, 0, 3, [], [.srcRead 369456 123152]) ∧
    stopOf (reading 1 0x0f000000 [] 246304 [true] 1) = some (0x0000048B, 2, 1, [], [.srcRead 123152 123152]) ∧
    stopOf (ready 1 0x0f000000 [] 123152 [false] []) = some (0x0000048B, 1, 0, [], [.srcOpen]) ∧
    stopOf (ready 1 0x0f000000 [] 123151 [true] [true]) =
      some (0x0000038B, 0, 0, [true], [.srcOpen, .srcRead 0 123152]) := by
  refine ⟨?_, ?_, ?_, ?_, ?_⟩ <;> rfl

/-! ### Byte order (95_test_vectors FR1–FR8) -/

theorem test_le32_FR1 : le32 0x01 0x02 0x03 0x04 = 0x04030201 := by decide
theorem test_le32_FR4 : le32 0x00 0x00 0x00 0x80 = 0x80000000 := by decide
theorem test_le32_FR5 : le32 0x01 0x00 0x00 0x80 = 0x80000001 := by decide
theorem test_le32_FR8 : le32 0x78 0x56 0x34 0x12 = 0x12345678 := by decide
theorem test_normalize : normalizeFrame [1, 2, 3, 4, 0, 0, 0, 0x80] = [0x04030201, 0x80000000] := by decide

/-! ### The demultiplexer (95_test_vectors 2.5) -/

/-- Sample `i` of plane `k` of a frame under a mask. -/
def sm (m : Word) (fb : Memory Word) (k i : Nat) : Sample := demuxSample fb (pos m k) i

theorem test_demux_BP2 : sm 0x0f000000 [(1, 0x01000000)] 0 0 = 0x8000 := by decide
theorem test_demux_BP3 : sm 0x0f000000 [(16, 0x08000000)] 3 0 = 0x0001 := by decide
theorem test_demux_BP4 : sm 0x0f000000 [(30769, 0x0f000000), (30784, 0x0f000000)] 2 1923 = 0x8001 := by decide
theorem test_demux_BP5 : sm 0xffffffff [(0, 0xFFFFFFFF), (30785, 0xFFFFFFFF)] 0 0 = 0 ∧
    sm 0xffffffff [(0, 0xFFFFFFFF), (30785, 0xFFFFFFFF)] 31 1923 = 0 := by decide
theorem test_demux_BP7 : sm 0xff0f0000 [(113, 0x01010000)] 0 7 = 0x8000 ∧
    sm 0xff0f0000 [(113, 0x01010000)] 4 7 = 0x8000 ∧ sm 0xff0f0000 [(113, 0x01010000)] 1 7 = 0 := by decide
theorem test_demux_BP9 : sm 0xffffff0f [(5, 0x00000100)] 4 0 = 0x0800 := by decide
theorem test_demux_BP10 : sm 0xffff0f00 [(1, 0x00000800), (2, 0x00010000)] 3 0 = 0x8000 ∧
    sm 0xffff0f00 [(1, 0x00000800), (2, 0x00010000)] 4 0 = 0x4000 := by decide
theorem test_demux_BP13 : sm 0xffffff00 [(30784, 0x80000000)] 23 1923 = 0x0001 := by decide
theorem test_demux_BP14 : sm 0xffffffff [(84, 0x00000001)] 0 5 = 0x1000 := by decide
theorem test_demux_BP15 : sm 0xffffffff [(1, 0x80000001), (16, 0xFFFFFFFF)] 0 0 = 0x8001 ∧
    sm 0xffffffff [(1, 0x80000001), (16, 0xFFFFFFFF)] 31 0 = 0x8001 ∧
    sm 0xffffffff [(1, 0x80000001), (16, 0xFFFFFFFF)] 30 0 = 0x0001 := by decide
theorem test_wordOffset : wordOffset 5 3 = 84 ∧ wordOffset 1923 15 = 30784 ∧ wordOffset 0 0 = 1 := by decide
/-- 42_bitplane_demux R147: the word an inverse puts at off(0, 0) for plane 1's bit 15. -/
theorem test_encWord : encWord [[0x0001], [0x8000]] 0xff000000 0 0 = 0x02000000 := by decide

/-! ### The mapper and the record check (95_test_vectors 2.6) -/

theorem test_map_CM2 : geomIdOf [⟨0, 0, 0x1234⟩, ⟨31, 63, 0xABCD⟩] 0 0 = 0x1234 ∧
    geomIdOf [⟨0, 0, 0x1234⟩, ⟨31, 63, 0xABCD⟩] 31 63 = 0xABCD ∧
    geomIdOf [⟨0, 0, 0x1234⟩, ⟨31, 63, 0xABCD⟩] 31 62 = 0 := by decide
theorem test_map_CM4 : lookups [⟨0, 0, 5⟩, ⟨0, 1, 6⟩] 4 1 = [[5], [0], [0], [0]] := by decide
theorem test_map_CM5 : geomIdOf [⟨2, 10, 0⟩] 2 10 = 0 ∧ geomIdOf [] 2 10 = 0 := by decide

/-- A state whose planes hold the given first samples, checked by CM8's predicate. -/
def checked (sm : List (Memory Sample)) : State :=
  let s := reading 2 0xff000000 [] 0 [] 41
  { s with params := { s.params with recordCheck := .firstSampleZero }, cfg := { s.cfg with outputKey := 3 },
           session := { s.session with sm := sm, eventValid := false } }

theorem test_assemble_CM9 :
    (checked [[], [(0, 1)], [], [], [], [], [(0, 1)], []]).firstInvalid = some 1 := by decide +kernel
theorem test_assemble_CM8 :
    (fun t : State => (t.statusWord, t.session.errInfo.word, t.session.ec, t.sink.length))
      (checked [[], [(0, 0x8000)], [], [], [], [], [], []]).assemble = (0x0000058C, 0x00000100, 41, 0) := by
  decide +kernel
theorem test_assemble_CM10 :
    (fun t : State => (t.statusWord, t.session.ec, t.sink.map fun c => (c.key, c.event, c.records.length)))
      (checked [[], [], [], [], [], [], [], []]).assemble = (0x0000009A, 42, [(3, 41, 8)]) := by decide +kernel

/-! ### The host port (44_host_commands R180, 60_exceptions R226, R231; 70_reset_and_hazards R240) -/

theorem test_idle : nextOf (step State.reset) = some State.reset := by decide
theorem test_resetInput : (nextOf (step { ended with inbox := [.resetInput] })).map
    (fun s => (s.statusWord, s.cfg)) = some (0x00000080, CfgRegs.reset) := by decide
theorem test_attach : (nextOf (step { State.reset with
    inbox := [.attach { Platform.default with mapReady := false }] })).map State.statusWord = some 0 := by decide
theorem test_attach_in_session :
    refusalOf (step { ended with inbox := [.attach Platform.default] }) = some .hostDutyBroken := by decide
theorem test_reserved_refused :
    refusalOf (step (send State.reset 0x810000000000)) = some .reservedHtx48Bits := by decide
theorem test_withFetchWord_command :
    statusOf (step ((fresh 1 30788 64 true).withFetchWord 32 1)) = some 0x00000088 := by decide
theorem test_withFetchWord_access :
    resultOf (step (State.reset.withFetchWord 48 0x002000000000)) = some 0x00007844 := by decide
theorem test_step_takes_the_oldest : (nextOf (step { State.reset with
    inbox := [.transaction 0x801C00000001, .transaction 0x801C00000002] })).map
      (fun s => (s.cfg.boardCount, s.inbox)) = some (1, [.transaction 0x801C00000002]) := by decide

/-! ### Witnesses: values that meet the hypotheses of the statements of Certificates/Slice0/Obligations.lean -/

/-- Everything the block and its surroundings hold is canonical where nothing is held (10_state R45–R47). -/
theorem dataInv_of_empty (s : State) (hp : s.params.wf = true) (hpl : s.platform.wf s.params = true)
    (he : ∀ e ∈ s.inbox, e.wf s.params = true) (hs : s.session.fb = [] ∧ s.session.sm = List.replicate 32 [] ∧
      s.session.geom = List.replicate 32 []) : s.DataInv := by
  obtain ⟨h1, h2, h3⟩ := hs
  refine ⟨hp, hpl, he, ?_, ?_, ?_⟩
  · rw [h1]; exact ⟨rfl, rfl⟩
  · rw [h2]
    refine ⟨by simp [Config.lines], fun m hm => ?_⟩
    rw [(List.mem_replicate.1 hm).2]; exact ⟨rfl, rfl⟩
  · rw [h3]
    refine ⟨by simp [Config.lines], fun m hm => ?_⟩
    rw [(List.mem_replicate.1 hm).2]
    exact ⟨rfl, rfl, by simp⟩

/-- A started session with NEXT_EVENT pending, a frame present, the open and the read answered. -/
def firstEvent : State := send (ready 1 0x0f000000 [] 123152 [true] [false]) nextWord

/-- The same in READING, after one event, with its collection delivered. -/
def secondEvent : State :=
  { send (reading 1 0x0f000000 [] 246304 [false] 1) nextWord with
    sink := [⟨0, 0, List.replicate 4 zeroRecord⟩] }

theorem firstEvent_sessionInv : firstEvent.SessionInv := by
  constructor <;> decide

theorem firstEvent_dataInv : firstEvent.DataInv :=
  dataInv_of_empty _ (by decide) (by decide) (by decide) (by decide)

theorem secondEvent_sessionInv : secondEvent.SessionInv := by
  constructor <;> decide

theorem secondEvent_dataInv : secondEvent.DataInv :=
  dataInv_of_empty _ (by decide) (by decide) (by decide) (by decide)

theorem secondEvent_sinkInv : secondEvent.SinkInv := by
  intro c hc
  have hc : c = ⟨0, 0, List.replicate 4 zeroRecord⟩ := by simpa [secondEvent] using hc
  subst hc
  refine ⟨⟨1, by decide, by decide, by rw [List.length_replicate]⟩, 64, by decide, by decide, ?_⟩
  intro r hr
  rw [(List.mem_replicate.1 hr).2]
  refine ⟨by simp only [zeroRecord, List.length_replicate],
    by simp only [zeroRecord, List.length_replicate, Config.cpcDefault], fun g hg => ?_⟩
  rw [(List.mem_replicate.1 hg).2]; decide

theorem witness_CommandWordMap : encodeCmd32 .nextEvent = some 2 := by decide
theorem witness_TableWordRoundTrip : (Instr.wrOutputKey 0xFFFFFFFF).wellFormed = true := by decide
theorem witness_DecodedWordEncodesBack : decode 0x802812345678 = .instr (.wrHexaboardCount 0x12345678) := by decide

theorem witness_ReservedDescriptorsRefused :
    ((0x810000000000 : HostWord).extractLsb' 40 7 ≠ 0 ∧
      (send State.reset 0x810000000000).inbox = .transaction 0x810000000000 :: []) ∧
    ((0x000400000001 : HostWord).getLsbD 47 = false ∧ (0x000400000001 : HostWord).extractLsb' 0 32 ≠ 0) := by decide

/-- Each side of the conclusion, a read and a write, at the last register, the first hole and the last offset. -/
theorem witness_OffsetDecidesTheAccess : ∀ w ∈ [(0x003800000000 : HostWord), 0x803800000001, 0x003C00000000,
    0x803C00000005, 0x000500000000, 0x80FF00000001],
    w.extractLsb' 40 7 = 0 ∧ (w.getLsbD 47 = false → w.extractLsb' 0 32 = 0) ∧
      (w.extractLsb' 32 8 ∈ registerOffsets ↔ w.extractLsb' 32 8 = 0x38) := by
  simp only [List.forall_mem_cons, List.not_mem_nil, false_implies, implies_true, and_true]
  decide

theorem witness_UnassignedAccessEffect_read : ∀ w ∈ [(0x000500000000 : HostWord), 0x003900000000, 0x00FC00000000],
    (send State.reset w).inbox = .transaction w :: [] ∧ w.extractLsb' 40 7 = 0 ∧
      w.extractLsb' 32 8 ∉ registerOffsets ∧ w.getLsbD 47 = false ∧ w.extractLsb' 0 32 = 0 := by
  simp only [List.forall_mem_cons, List.not_mem_nil, false_implies, implies_true, and_true]
  decide

theorem witness_UnassignedAccessEffect_write : ∀ w ∈ [(0x803C00000005 : HostWord), 0x800100000000, 0x80FFFFFFFFFF],
    (send State.reset w).inbox = .transaction w :: [] ∧ w.extractLsb' 40 7 = 0 ∧
      w.extractLsb' 32 8 ∉ registerOffsets ∧ w.getLsbD 47 = true ∧ (send State.reset w).busy = false := by
  simp only [List.forall_mem_cons, List.not_mem_nil, false_implies, implies_true, and_true]
  decide

theorem witness_StepRunsDecodedInstr : (send State.reset 0x801C00000001).inbox = .transaction 0x801C00000001 :: [] ∧
    decode 0x801C00000001 = .instr (.wrBoardCount 1) ∧ (Instr.wrBoardCount 1).wellFormed = true := by decide

theorem witness_IdleHoldsState : State.reset.inbox = [] := by decide

theorem witness_FetchWordRunsTableRow : decodeTableWord 32 2 = some .nextEvent ∧
    decodeTableWord 48 0x802400000040 = some (.wrChannelsPerChip 64) := by decide

theorem witness_AttachOnlyBeforeStart :
    (let s := { State.reset with inbox := [.attach Platform.default] }
     s.inbox = .attach Platform.default :: [] ∧ s.session.phase = .uninit ∧ s.session.cfgOk = false) ∧
    (let s := { ready 1 0x0f000000 [] 0 [] [] with inbox := [.attach Platform.default] }
     s.inbox = .attach Platform.default :: [] ∧ ¬ (s.session.phase = .uninit ∧ s.session.cfgOk = false)) ∧
    (let s := { ended with inbox := [.attach Platform.default] }
     s.inbox = .attach Platform.default :: [] ∧ ¬ (s.session.phase = .uninit ∧ s.session.cfgOk = false)) := by
  decide

theorem witness_ReadOnlyWritesIgnored : ended.busy = false := by decide

theorem witness_ConfigWriteStoresOrSetsCmdErr :
    (State.reset.busy = false ∧ State.reset.session.phase = .uninit ∧ State.reset.session.cfgOk = false) ∧
    (let s := ready 1 0x0f000000 [] 0 [] []
     s.busy = false ∧ ¬ (s.session.phase = .uninit ∧ s.session.cfgOk = false)) ∧
    (ended.busy = false ∧ ¬ (ended.session.phase = .uninit ∧ ended.session.cfgOk = false)) := by decide

theorem witness_WriteWhileBusyIgnored : ∀ w ∈ [(0x800000000000 : HostWord), 0x801C00000001, 0x80FC00000000],
    (send busyState w).busy = true ∧ (send busyState w).inbox = .transaction w :: [] ∧ w.getLsbD 47 = true ∧
      w.extractLsb' 40 7 = 0 := by
  simp only [List.forall_mem_cons, List.not_mem_nil, false_implies, implies_true, and_true]
  decide

theorem witness_CtrlWriteIssuesCommand : (State.reset.busy = false ∧ 4 ≤ (4 : Word).toNat ∧
    4 ≤ (0xFFFFFFFF : Word).toNat) ∧ busyState.busy = true := by decide

theorem witness_NopChangesNothing : ended.busy = false := by decide

/-- At the least and the greatest legal value of each register. -/
theorem witness_StartLatchesMask : ∀ s ∈ [fresh 1 30785 1 true, fresh 8 30788 64 true],
    s.busy = false ∧ s.session.phase = .uninit ∧ s.session.cfgOk = false ∧ 1 ≤ s.cfg.boardCount.toNat ∧
      s.cfg.boardCount.toNat ≤ 8 ∧ 30785 ≤ s.cfg.wordsPerEvent.toNat ∧
      s.cfg.wordsPerEvent.toNat ≤ s.params.wpeMax.toNat ∧ 1 ≤ s.cfg.channelsPerChip.toNat ∧
      s.cfg.channelsPerChip.toNat ≤ s.params.cpcMax.toNat ∧ s.platform.mapReady = true := by decide

/-- The premises of R128's clauses hold, each clause at its boundary values. -/
theorem witness_StartRaisesFirstFailure :
    (∀ s ∈ [fresh 0 30788 64 true, fresh 9 30788 64 true, fresh 0xFFFFFFFF 0 0 false],
      s.busy = false ∧ s.session.phase = .uninit ∧ s.session.cfgOk = false ∧
        (s.cfg.boardCount.toNat < 1 ∨ 8 < s.cfg.boardCount.toNat)) ∧
    (∀ s ∈ [fresh 1 30784 64 true, fresh 8 0 0 false], s.busy = false ∧ s.session.phase = .uninit ∧
      s.session.cfgOk = false ∧ 1 ≤ s.cfg.boardCount.toNat ∧ s.cfg.boardCount.toNat ≤ 8 ∧
        s.cfg.wordsPerEvent.toNat < 30785) ∧
    (∀ s ∈ [fresh 1 30789 64 true, fresh 8 0xFFFFFFFF 0 false], s.busy = false ∧ s.session.phase = .uninit ∧
      s.session.cfgOk = false ∧ 1 ≤ s.cfg.boardCount.toNat ∧ s.cfg.boardCount.toNat ≤ 8 ∧
        30785 ≤ s.cfg.wordsPerEvent.toNat ∧ s.params.wpeMax.toNat < s.cfg.wordsPerEvent.toNat) ∧
    (∀ s ∈ [fresh 1 30785 0 true, fresh 8 30788 65 false], s.busy = false ∧ s.session.phase = .uninit ∧
      s.session.cfgOk = false ∧ 1 ≤ s.cfg.boardCount.toNat ∧ s.cfg.boardCount.toNat ≤ 8 ∧
        30785 ≤ s.cfg.wordsPerEvent.toNat ∧ s.cfg.wordsPerEvent.toNat ≤ s.params.wpeMax.toNat ∧
        (s.cfg.channelsPerChip.toNat = 0 ∨ s.params.cpcMax.toNat < s.cfg.channelsPerChip.toNat)) ∧
    (∀ r : Bool, ∀ s ∈ [fresh 1 30785 1 r, fresh 8 30788 64 r], s.busy = false ∧ s.session.phase = .uninit ∧
      s.session.cfgOk = false ∧ 1 ≤ s.cfg.boardCount.toNat ∧ s.cfg.boardCount.toNat ≤ 8 ∧
        30785 ≤ s.cfg.wordsPerEvent.toNat ∧ s.cfg.wordsPerEvent.toNat ≤ s.params.wpeMax.toNat ∧
        1 ≤ s.cfg.channelsPerChip.toNat ∧ s.cfg.channelsPerChip.toNat ≤ s.params.cpcMax.toNat ∧
        s.platform.mapReady = r) := by decide

theorem witness_StartOutOfStateSetsCmdErr : ∀ s ∈ [ready 1 0x0f000000 [] 0 [] [], secondEvent, ended],
    s.busy = false ∧ ¬ (s.session.phase = .uninit ∧ s.session.cfgOk = false) := by decide

theorem witness_IllegalBoardCountHasNoMask : ∀ b ∈ [(0 : Word), 9, 0xFFFFFFFF],
    (b.toNat < 1 ∨ 8 < b.toNat) ∧ (fresh b 30788 64 true).busy = false ∧
      (fresh b 30788 64 true).session.phase = .uninit ∧ (fresh b 30788 64 true).session.cfgOk = false ∧
      (fresh b 30788 64 true).cfg.boardCount = b := by
  simp only [List.forall_mem_cons, List.not_mem_nil, false_implies, implies_true, and_true]
  decide

theorem witness_RankInvertsPosition : (0 < popcount 0x80000001 ∧ 1 < popcount 0x80000001) ∧
    (0x80000001 : Word).getLsbD 0 = true ∧ (0x80000001 : Word).getLsbD 31 = true ∧
    (∀ p < 32, (0x80000001 : Word).getLsbD p = true →
      ((List.range p).filter fun i => (0x80000001 : Word).getLsbD i).length = 1 → p = 31) := by decide

theorem witness_NextEventBeforeStart : State.reset.busy = false ∧ State.reset.session.phase = .uninit ∧
    State.reset.session.cfgOk = false := by decide

theorem witness_NextEventInTerminalState :
    (ended.busy = false ∧ ended.session.phase = .exhausted) ∧
    (let s := State.reset.raise (.configError 1); s.busy = false ∧ s.session.phase = .aborted) := by decide

theorem witness_NextEventOpenFails :
    let s := ready 1 0x0f000000 [] 123152 [false] []
    s.busy = false ∧ s.eventReady = true ∧ s.session.srcOpen = false ∧ s.openAnswer = false := by decide

/-- One byte short of a frame, with the source not yet open and open, and a frame past the address width. -/
theorem witness_NextEventStreamEnd : ∀ s ∈ [ready 1 0x0f000000 [] 123151 [true] [],
      reading 1 0x0f000000 [] 246303 [] 1, reading 1 0x0f000000 [] (2 ^ 70) [] 0xFFFFFFFFFFFFFFFF],
    s.busy = false ∧ s.eventReady = true ∧ s.canOpen = true ∧ s.frameInSource = false := by decide

/-- Exactly the frame's bytes, with the source not yet open and open. -/
theorem witness_NextEventReadFails : ∀ s ∈ [ready 1 0x0f000000 [] 123152 [true] [true],
      reading 1 0x0f000000 [] 246304 [true] 1],
    s.busy = false ∧ s.eventReady = true ∧ s.canOpen = true ∧ s.frameInSource = true ∧ s.readFails = true := by
  decide

theorem getD_replicate_zero {α : Type} [OfNat α 0] (n i : Nat) : (List.replicate n (0 : α)).getD i 0 = 0 := by
  by_cases h : i < n <;> simp [List.getD_eq_getElem?_getD, h]

/-- An all-zero frame and an empty map give zero records (95_test_vectors W5). -/
theorem zeroRecord_isFrameRecord (s : State) (k : Nat) (hb : s.platform.srcBytes = []) (hm : s.platform.map = [])
    (hc : s.cfg.channelsPerChip = 64) : s.IsFrameRecord k zeroRecord := by
  refine ⟨by simp only [zeroRecord, List.length_replicate], fun i _ j _ => ?_, ?_, fun c _ => ?_⟩
  · rw [hb]; simp only [zeroRecord, getD_replicate_zero, Memory.read_nil]
    exact BitVec.getLsbD_zero.trans BitVec.getLsbD_zero.symm
  · rw [hc]; simp only [zeroRecord, List.length_replicate, Config.cpcDefault]; decide
  · rw [hm]; simp only [zeroRecord, getD_replicate_zero, mapLookup]

/-- 95_test_vectors W5 and P1. -/
theorem witness_NextEventEmitsTheFrame :
    let recs := List.replicate 4 zeroRecord
    firstEvent.SessionInv ∧ firstEvent.DataInv ∧ firstEvent.eventReady = true ∧ firstEvent.canOpen = true ∧
      firstEvent.frameInSource = true ∧ firstEvent.readFails = false ∧
      recs.length = popcount firstEvent.session.activeMask ∧
      (∀ (k : Nat) (h : k < recs.length), firstEvent.IsFrameRecord k recs[k]) ∧
      ∀ r ∈ recs, firstEvent.params.recordCheck.valid firstEvent.cpc r = true := by
  refine ⟨firstEvent_sessionInv, firstEvent_dataInv, by decide, by decide, by decide, by decide, ?_, ?_, ?_⟩
  · rw [List.length_replicate]; decide
  · intro k h
    rw [List.getElem_replicate]
    exact zeroRecord_isFrameRecord _ _ rfl rfl rfl
  · intro r hr
    rw [(List.mem_replicate.1 hr).2]
    have hc : firstEvent.cpc = 64 := by decide
    rw [hc]
    have hk : firstEvent.params.recordCheck = .countsOk := by decide
    rw [hk]
    simp only [RecordCheck.valid, zeroRecord, List.length_replicate, Config.cpcDefault, decide_true, Bool.and_self]

/-- 95_test_vectors P4: one frame of zeros with word 1 = 0x02000000, BOARD_COUNT 2, and CM8's predicate. -/
def badSecond : State :=
  let s := send (ready 2 0xff000000 [(7, 2)] 123152 [true] [false]) nextWord
  { s with params := { s.params with recordCheck := .firstSampleZero } }

/-- The record of P4's plane 1: sample 0 is 0x8000. -/
def badRecord : ChipRecord := ⟨0x8000 :: List.replicate 1923 0, List.replicate 64 0⟩

theorem badSecond_pos (k : Nat) (h : k < 8) : pos 0xff000000 k = 24 + k := by
  have : ∀ k < 8, pos 0xff000000 k = 24 + k := by decide
  exact this k h

theorem badSecond_bit (k i j : Nat) (h : k < 8) :
    (Memory.read badSecond.platform.srcBytes
      (badSecond.session.ec.toNat * (4 * badSecond.cfg.wordsPerEvent.toNat) + 4 * (1 + 16 * i + j)
        + pos badSecond.session.activeMask k / 8)).getLsbD (pos badSecond.session.activeMask k % 8) =
      (decide (i = 0) && decide (j = 0) && decide (k = 1)) := by
  have hm : badSecond.session.activeMask = 0xff000000 := rfl
  have hb : badSecond.platform.srcBytes = [(7, 2)] := rfl
  have he : badSecond.session.ec.toNat = 0 := by decide
  rw [hm, hb, he, badSecond_pos k h, Nat.zero_mul, Nat.zero_add, Memory.read_cons, Memory.read_nil]
  have hk : (24 + k) / 8 = 3 ∧ (24 + k) % 8 = k := by omega
  rw [hk.1, hk.2]
  by_cases hij : i = 0 ∧ j = 0
  · obtain ⟨rfl, rfl⟩ := hij
    have : ∀ k < 8, (2 : Byte).getLsbD k = decide (k = 1) := by decide
    simpa using this k h
  · rw [if_neg (by omega)]
    have : (decide (i = 0) && decide (j = 0)) = false := by
      by_cases h1 : i = 0 <;> by_cases h2 : j = 0 <;> simp_all
    rw [this]; simp

theorem zeros_badSecond (k : Nat) (h : k < 8) (hk : k ≠ 1) : badSecond.IsFrameRecord k zeroRecord := by
  have hz := zeroRecord_isFrameRecord (fresh 2 30788 64 true) k rfl rfl rfl
  refine ⟨hz.1, fun i hi j hj => ?_, hz.2.2.1, hz.2.2.2⟩
  rw [badSecond_bit k i j h]
  have := hz.2.1 i hi j hj
  rw [this, show (fresh 2 30788 64 true).platform.srcBytes = [] from rfl, Memory.read_nil]
  simp [hk]

theorem badRecord_isFrameRecord : badSecond.IsFrameRecord 1 badRecord := by
  have hz := zeroRecord_isFrameRecord (fresh 2 30788 64 true) 1 rfl rfl rfl
  refine ⟨by simp only [badRecord, List.length_cons, List.length_replicate, Config.nSamples], fun i hi j hj => ?_,
    hz.2.2.1, hz.2.2.2⟩
  rw [badSecond_bit 1 i j (by decide)]
  cases i with
  | zero =>
    have : ∀ j < 16, (0x8000 : Sample).getLsbD (15 - j) = decide (j = 0) := by decide
    simp only [badRecord, List.getD_cons_zero]
    rw [this j hj]
    simp only [decide_true, Bool.true_and, Bool.and_true]
  | succ i =>
    simp only [badRecord, List.getD_cons_succ, getD_replicate_zero]
    rw [decide_eq_false (Nat.succ_ne_zero i), Bool.false_and, Bool.false_and]
    exact BitVec.getLsbD_zero

theorem badSecond_sessionInv : badSecond.SessionInv := by
  constructor <;> decide

theorem badSecond_dataInv : badSecond.DataInv :=
  dataInv_of_empty _ (by decide) (by decide) (by decide) (by decide)

/-- 95_test_vectors P4: plane 1 of 8 is the first that fails. -/
theorem witness_NextEventRejectsFirstInvalid :
    let recs := zeroRecord :: badRecord :: List.replicate 6 zeroRecord
    badSecond.SessionInv ∧ badSecond.DataInv ∧ badSecond.eventReady = true ∧ badSecond.canOpen = true ∧
      badSecond.frameInSource = true ∧ badSecond.readFails = false ∧
      recs.length = popcount badSecond.session.activeMask ∧
      (∀ (k' : Nat) (h : k' < recs.length), badSecond.IsFrameRecord k' recs[k']) ∧
      (∀ (k' : Nat) (h : k' < recs.length), k' < 1 →
        badSecond.params.recordCheck.valid badSecond.cpc recs[k'] = true) ∧
      ∃ h : 1 < recs.length, badSecond.params.recordCheck.valid badSecond.cpc recs[1] = false := by
  refine ⟨badSecond_sessionInv, badSecond_dataInv, by decide, by decide, by decide, by decide, ?_, ?_, ?_, ?_⟩
  · simp only [List.length_cons, List.length_replicate]; decide
  · intro k' h
    have h8 : k' < 8 := by simpa using h
    match k' with
    | 0 => exact zeros_badSecond 0 (by decide) (by decide)
    | 1 => exact badRecord_isFrameRecord
    | k + 2 =>
      rw [List.getElem_cons_succ, List.getElem_cons_succ, List.getElem_replicate]
      exact zeros_badSecond _ h8 (by omega)
  · intro k' h h1
    have : k' = 0 := by omega
    subst this; rfl
  · exact ⟨by simp, rfl⟩

/-- The last whole block, and a block of three bytes. -/
theorem witness_NormalizationByteOrder : 4 * 0 + 3 < [(1 : Byte), 2, 3, 4].length ∧
    [(1 : Byte), 2, 3].length ≤ 4 * 0 + 3 := by decide

theorem witness_DemuxBitRule : State.reset.session.sm.length = 32 ∧
    (3 < popcount 0x0f000000 ∧ popcount 0x0f000000 ≤ 4) ∧ 1923 < 1924 ∧ 15 < 16 := by decide

theorem witness_DemuxOutputShape : (3 < popcount 0x0f000000) ∧ 2 < 3 := by decide

/-- 95_test_vectors BP5 and BP8: frames that differ in the header, in the margin and outside the mask. -/
theorem witness_DemuxIgnoresOtherBits : ∀ n, 1 ≤ n → n ≤ 30784 → ∀ p < 32, (0xffffff0f : Word).getLsbD p = true →
    (Memory.read ([(0, 0xFFFFFFFF), (5, 0x000000F0), (30785, 1)] : Memory Word) n).getLsbD p =
      (Memory.read ([] : Memory Word) n).getLsbD p := by
  intro n h1 h2 p hp hm
  rw [Memory.read_cons, if_neg (by omega), Memory.read_cons, Memory.read_cons, if_neg (by omega : ¬ 30785 = n)]
  split
  · have : ∀ p < 32, (0xffffff0f : Word).getLsbD p = true → (0x000000F0 : Word).getLsbD p = false := by decide
    rw [this p hp hm]; simp
  · rfl

theorem witness_DemuxRoundTrip : (List.replicate 4 (List.replicate 1924 (0x8001 : Sample))).length =
    popcount 0x0f000000 ∧ ∀ a ∈ List.replicate 4 (List.replicate 1924 (0x8001 : Sample)), a.length = 1924 := by
  refine ⟨by rw [List.length_replicate]; decide, fun a ha => ?_⟩
  rw [(List.mem_replicate.1 ha).2, List.length_replicate]

theorem witness_WordOffsetsBijection : (1 ≤ wordOffset 0 0 ∧ wordOffset 1923 15 ≤ 30784) ∧ firstEvent.SessionInv ∧
    firstEvent.session.cfgOk = true :=
  ⟨by decide, firstEvent_sessionInv, by decide⟩

/-- CM4's two sides: (3, 0) is looked up; (0, 1) and (4, 0) are not. -/
theorem witness_LookupsFillG :
    let s := { ready 1 0x0f000000 [] 0 [] [] with cfg := { CfgRegs.reset with channelsPerChip := 1 } }
    s.session.geom.length = 32 ∧ (3 < popcount s.session.activeMask ∧ 0 < s.cfg.channelsPerChip.toNat) ∧
      popcount s.session.activeMask ≤ 4 ∧ s.cfg.channelsPerChip.toNat ≤ 1 := by decide

theorem witness_RecordCheckObeysLaw : State.reset.params.recordCheck = .countsOk := by decide
theorem witness_SessionResetStartsNewSession : ended.busy = false := by decide
theorem witness_ResetInputValues : { ended with inbox := [.resetInput] }.inbox = .resetInput :: [] := by decide

theorem witness_TerminalStateIsFinal :
    (∀ w ∈ [(0x000400000000 : HostWord), 0x801C00000001, 0x800000000001, 0x800000000002],
      (send ended w).session.phase = .exhausted ∧ (send ended w).inbox = .transaction w :: [] ∧
        w ≠ sresetWord ∧ (nextOf (step (send ended w))).isSome = true) ∧
    ((send ended sresetWord).session.phase = .exhausted ∧
      (send ended sresetWord).inbox = .transaction sresetWord :: [] ∧ (send ended sresetWord).busy = false ∧
      (nextOf (step (send ended sresetWord))).isSome = true) ∧
    (let s := { State.reset.raise .mapLoadError with inbox := [.resetInput] }
     s.session.phase = .aborted ∧ s.inbox = .resetInput :: [] ∧ (nextOf (step s)).isSome = true) := by
  simp only [List.forall_mem_cons, List.not_mem_nil, false_implies, implies_true, and_true]
  decide

theorem witness_StepKeepsSessionInv : firstEvent.SessionInv ∧ ∃ t, step firstEvent = .next t :=
  ⟨firstEvent_sessionInv, _, rfl⟩

theorem witness_StepKeepsDataInv : badSecond.SessionInv ∧ badSecond.DataInv ∧ ∃ t, step badSecond = .next t :=
  ⟨badSecond_sessionInv, badSecond_dataInv, _, rfl⟩

theorem witness_StepKeepsSinkShape : secondEvent.SessionInv ∧ secondEvent.DataInv ∧ secondEvent.SinkInv ∧
    ∃ t, step secondEvent = .next t :=
  ⟨secondEvent_sessionInv, secondEvent_dataInv, secondEvent_sinkInv, _, rfl⟩

theorem witness_EventCounterNeverWraps : secondEvent.SessionInv ∧ secondEvent.session.cfgOk = true :=
  ⟨secondEvent_sessionInv, by decide⟩

theorem witness_ConfigLockedInSession : (∃ t, step firstEvent = .next t) ∧
    ¬ (firstEvent.session.phase = .uninit ∧ firstEvent.session.cfgOk = false) :=
  ⟨⟨_, rfl⟩, by decide⟩

theorem witness_CmdErrIsSticky : (∃ t, step (send ended nextWord) = .next t) ∧
    (send ended nextWord).session.cmdErr = true :=
  ⟨⟨_, rfl⟩, by decide⟩

theorem witness_EventEmittedOncePerCount : ∃ t, step secondEvent = .next t := ⟨_, rfl⟩

/-- A started session whose pending NEXT_EVENT fails to open the source. -/
def failedOpen : State := send (ready 1 0x0f000000 [] 123152 [false] []) nextWord

theorem failedOpen_sessionInv : failedOpen.SessionInv := by
  constructor <;> decide

/-- A step that is no such NEXT_EVENT, an open that fails, one that succeeds, and a source already open. -/
theorem witness_SourceRequestsOnlyByNextEvent :
    ((send State.reset nextWord).SessionInv ∧ (∃ t, step (send State.reset nextWord) = .next t) ∧
      ¬ ((send State.reset nextWord).inbox.head? = some (.transaction nextWord) ∧
        (send State.reset nextWord).eventReady = true)) ∧
    (failedOpen.SessionInv ∧ (∃ t, step failedOpen = .next t) ∧
      failedOpen.inbox.head? = some (.transaction nextWord) ∧ failedOpen.eventReady = true ∧
      failedOpen.session.srcOpen = false ∧ failedOpen.openAnswer = false) ∧
    (firstEvent.SessionInv ∧ (∃ t, step firstEvent = .next t) ∧
      firstEvent.inbox.head? = some (.transaction nextWord) ∧ firstEvent.eventReady = true ∧
      firstEvent.session.srcOpen = false ∧ firstEvent.canOpen = true) ∧
    (secondEvent.SessionInv ∧ (∃ t, step secondEvent = .next t) ∧
      secondEvent.inbox.head? = some (.transaction nextWord) ∧ secondEvent.eventReady = true ∧
      secondEvent.session.srcOpen = true ∧ secondEvent.canOpen = true) :=
  ⟨⟨by constructor <;> decide, ⟨_, rfl⟩, by decide⟩,
    ⟨failedOpen_sessionInv, ⟨_, rfl⟩, by decide⟩, ⟨firstEvent_sessionInv, ⟨_, rfl⟩, by decide⟩,
    secondEvent_sessionInv, ⟨_, rfl⟩, by decide⟩

theorem witness_PlatformConstantInSession : (∃ t, step firstEvent = .next t) ∧
    ∃ t, step { State.reset with inbox := [.attach Platform.default] } = .next t :=
  ⟨⟨_, rfl⟩, _, rfl⟩

theorem witness_FiniteSourceEndsTheRun : (firstEvent.SessionInv ∧ firstEvent.eventReady = true) ∧
    secondEvent.SessionInv ∧ secondEvent.eventReady = true :=
  ⟨⟨firstEvent_sessionInv, by decide⟩, secondEvent_sessionInv, by decide⟩

theorem witness_HexaboardRegistersUnused : (Instr.start ≠ .rdHexaboardCount ∧
    Instr.start ≠ .rdChipsPerHexaboard ∧ (∀ v, Instr.start ≠ .wrHexaboardCount v) ∧
    ∀ v, Instr.start ≠ .wrChipsPerHexaboard v) ∧ ∃ t, exec .start State.reset = .next t :=
  ⟨⟨nofun, nofun, nofun, nofun⟩, _, rfl⟩

/-- The header's bytes 0 to 3 and the margin's from 123140 on differ (95_test_vectors BP5). -/
theorem witness_HeaderAndMarginIgnored : ∀ a, firstEvent.frameOffset + 4 ≤ a →
    a < firstEvent.frameOffset + 4 * 30785 →
    Memory.read ([(0, 0xA5), (3, 0xA5), (123140, 0xFF)] : Memory Byte) a =
      Memory.read firstEvent.platform.srcBytes a := by
  intro a h1 h2
  have h0 : firstEvent.frameOffset = 0 := by decide
  rw [h0] at h1 h2
  rw [Memory.read_cons, if_neg (by omega), Memory.read_cons, if_neg (by omega), Memory.read_cons,
    if_neg (by omega)]
  rfl

end Sys2Proof.Tests
end

section
/-! The mask functions `popcount`, `pos` and `rank` of 00_scope R10. The idea of the part: a set bit `p` cuts the
ascending list of set bits into those below it, of which there are `rank m p`, then `p`, then the rest. So `p` stands at
index `rank m p` of that list, which is all that `pos` looks up. -/

namespace Sys2Proof.Machine

theorem setBits_eq_append_cons {m : Word} {p : Nat} (hp : p < Config.lines) (hbit : m.getLsbD p = true) :
    ∃ above, setBits m = ((List.range p).filter fun i => m.getLsbD i) ++ p :: above := by
  obtain ⟨n, hn⟩ : ∃ n, Config.lines = p + (n + 1) := ⟨Config.lines - p - 1, by omega⟩
  refine ⟨((List.range' (p + 1) n).filter fun i => m.getLsbD i), ?_⟩
  have cut : List.range Config.lines = List.range p ++ p :: List.range' (p + 1) n := by
    rw [hn, ← List.range'_succ, List.range_eq_range', List.range_eq_range', ← List.range'_append_1, Nat.zero_add]
  rw [setBits, cut, List.filter_append, List.filter_cons_of_pos hbit]

theorem getElem?_setBits_rank {m : Word} {p : Nat} (hp : p < Config.lines) (hbit : m.getLsbD p = true) :
    (setBits m)[rank m p]? = some p := by
  obtain ⟨above, cut⟩ := setBits_eq_append_cons hp hbit
  simp [cut, rank]

theorem rank_lt_popcount {m : Word} {p : Nat} (hp : p < Config.lines) (hbit : m.getLsbD p = true) :
    rank m p < popcount m :=
  (List.getElem?_eq_some_iff.mp (getElem?_setBits_rank hp hbit)).1

theorem pos_rank {m : Word} {p : Nat} (hp : p < Config.lines) (hbit : m.getLsbD p = true) :
    pos m (rank m p) = p := by
  simp [pos, getElem?_setBits_rank hp hbit]

theorem getElem?_setBits {m : Word} {k : Nat} (hk : k < popcount m) : (setBits m)[k]? = some (pos m k) := by
  rw [pos, List.getD_eq_getElem _ _ hk, List.getElem?_eq_getElem hk]

theorem pos_mem_setBits {m : Word} {k : Nat} (hk : k < popcount m) : pos m k ∈ setBits m :=
  List.mem_of_getElem? (getElem?_setBits hk)

theorem pos_lt_lines {m : Word} {k : Nat} (hk : k < popcount m) : pos m k < Config.lines :=
  ((mem_setBits m _).mp (pos_mem_setBits hk)).1

theorem getLsbD_pos {m : Word} {k : Nat} (hk : k < popcount m) : m.getLsbD (pos m k) = true :=
  ((mem_setBits m _).mp (pos_mem_setBits hk)).2

theorem nodup_setBits (m : Word) : (setBits m).Nodup :=
  List.nodup_range.filter _

/-- `pos m k` stands in the list of set bits at index `rank m (pos m k)` and at index `k`, and no position stands there
twice. -/
theorem rank_pos {m : Word} {k : Nat} (hk : k < popcount m) : rank m (pos m k) = k := by
  have atRank : (setBits m)[rank m (pos m k)]? = some (pos m k) :=
    getElem?_setBits_rank (pos_lt_lines hk) (getLsbD_pos hk)
  have atIndex : (setBits m)[k]? = some (pos m k) := getElem?_setBits hk
  exact ((List.getElem?_inj hk (nodup_setBits m)).mp (atIndex.trans atRank.symm)).symm

/-- Settles O28: `rank` undoes `pos` and `pos` undoes `rank` (00_scope R10), so a set bit with `k` set bits below it can
only be `pos m k`. -/
theorem rankInvertsPosition : Obligations.RankInvertsPosition := by
  intro m
  refine ⟨rfl, fun k hk => ⟨getLsbD_pos hk, rank_pos hk, fun p hp hbit below => ?_⟩,
    fun p hp hbit => ⟨rfl, rank_lt_popcount hp hbit, pos_rank hp hbit⟩⟩
  obtain rfl : rank m p = k := below
  exact (pos_rank hp hbit).symm

end Sys2Proof.Machine
end

section
/-! What the request for an event does to the session, said once (44_host_commands R187): it fails with one exception or
emits the event, and it leaves FB, SM and G alone or writes one frame through them. The invariants and the frame of
NEXT_EVENT are read off these. -/

namespace Sys2Proof.Machine

section
variable (s : State)

/-- Opening the source touches the phase, SRC_OPEN and the two records of the source's answers. -/
theorem State.opened_eq : ∃ phase draws log,
    s.opened = { s with openDraws := draws, srcLog := log,
                        session := { s.session with phase := phase, srcOpen := true } } := by
  unfold State.opened
  split
  · next h => exact ⟨s.session.phase, s.openDraws, s.srcLog, by rw [← h]⟩
  · exact ⟨_, _, _, rfl⟩

theorem State.firstInvalid_lt {k : Nat} (h : s.firstInvalid = some k) : k < s.planes :=
  List.mem_range.mp (List.mem_of_find?_eq_some h)

theorem State.planes_le : s.planes ≤ Config.lines := popcount_le _

/-- The exceptions the request for an event can raise, with `planes` active planes (60_exceptions R214, R215, R216). -/
def Exc.OfEvent (planes : Nat) : Exc → Prop
  | .streamEnd => True
  | .ioError sub => sub = 1 ∨ sub = 2
  | .recordValidationError plane => plane.toNat < planes
  | .configError _ => False
  | .mapLoadError => False

/-- The session after an event that ended in the exception `x`. -/
structure State.EventFailed (t : State) (x : Exc) : Prop where
  phase : t.session.phase = x.terminal
  cause : t.session.cause = x.cause
  errInfo : t.session.errInfo = x.info
  eventValid : t.session.eventValid = s.session.eventValid
  ec : t.session.ec = s.session.ec
  sink : t.sink = s.sink

/-- The session after an event that went to the sink. -/
structure State.EventEmitted (t : State) : Prop where
  phase : t.session.phase = .reading
  cause : t.session.cause = s.session.cause
  errInfo : t.session.errInfo = s.session.errInfo
  ec : t.session.ec = s.session.ec + 1
  srcOpen : t.session.srcOpen = true
  sink : ∃ c, t.sink = s.sink ++ [c]
  inSource : s.frameOffset + s.frameSize ≤ s.platform.srcLen ∧ s.frameOffset + s.frameSize ≤ 2 ^ Config.srcAddrW

theorem State.produceEvent_outcome :
    (∃ x, x.OfEvent s.planes ∧ s.EventFailed s.produceEvent x) ∨ s.EventEmitted s.produceEvent := by
  obtain ⟨phase, draws, log, hopened⟩ := s.opened_eq
  rcases s.produceEvent_cases with ⟨-, -, h⟩ | ⟨-, ⟨-, h⟩ | ⟨-, -, h⟩ | ⟨hend, -, h⟩⟩
  · exact .inl ⟨.ioError 1, .inl rfl, by rw [h]; constructor <;> rfl⟩
  · exact .inl ⟨.streamEnd, trivial, by rw [h, hopened]; constructor <;> rfl⟩
  · exact .inl ⟨.ioError 2, .inr rfl, by rw [h, hopened]; constructor <;> rfl⟩
  · rw [hopened] at h hend
    rcases State.processFrame_cases _ _ with ⟨k, hk, hraise⟩ | ⟨-, hemit⟩
    · rw [hraise] at h
      have hlt : k < s.planes := (State.firstInvalid_lt _ hk :)
      have hlines : s.planes ≤ 32 := s.planes_le
      refine .inl ⟨.recordValidationError (BitVec.ofNat 5 k), ?_, by rw [h]; constructor <;> rfl⟩
      rw [Exc.OfEvent, BitVec.toNat_ofNat, Nat.mod_eq_of_lt (by omega)]
      exact hlt
    · rw [hemit] at h
      exact .inr (by rw [h]; exact {
        phase := rfl, cause := rfl, errInfo := rfl, ec := rfl, srcOpen := rfl
        sink := ⟨_, rfl⟩
        inSource := (s.pastEnd_eq_false s.frameOffset s.frameSize).mp hend })

/-- FB, SM and G are as they were. -/
structure State.SameMemories (t : State) : Prop where
  fb : t.session.fb = s.session.fb
  sm : t.session.sm = s.session.sm
  geom : t.session.geom = s.session.geom

/-- A frame of bytes `b` has passed through FB, SM and G. -/
structure State.StoredFrame (t : State) (b : List Byte) : Prop where
  length : b.length = s.frameSize
  fb : t.session.fb = Memory.writeRange s.session.fb 0 (normalizeFrame b)
  sm : t.session.sm = writePlanes s.session.sm (demux t.session.fb s.session.activeMask)
  geom : t.session.geom = writePlanes s.session.geom (lookups s.platform.map s.planes s.cpc)

theorem State.produceEvent_memories :
    s.SameMemories s.produceEvent ∨ ∃ b, s.StoredFrame s.produceEvent b := by
  obtain ⟨phase, draws, log, hopened⟩ := s.opened_eq
  rcases s.produceEvent_cases with ⟨-, -, h⟩ | ⟨-, ⟨-, h⟩ | ⟨-, -, h⟩ | ⟨-, -, h⟩⟩
  · exact .inl (by rw [h]; constructor <;> rfl)
  · exact .inl (by rw [h, hopened]; constructor <;> rfl)
  · exact .inl (by rw [h, hopened]; constructor <;> rfl)
  · rw [hopened] at h
    refine .inr ⟨Memory.readRange s.platform.srcBytes s.frameOffset s.frameSize, ?_⟩
    rcases State.processFrame_cases _ _ with ⟨k, -, hraise⟩ | ⟨-, hemit⟩
    · rw [h, hraise]; exact ⟨Memory.length_readRange _ _ _, rfl, rfl, rfl⟩
    · rw [h, hemit]; exact ⟨Memory.length_readRange _ _ _, rfl, rfl, rfl⟩

end

end Sys2Proof.Machine
end

section
/-! The coherence of the session state. Every step ends in one of four kinds of session: one that has not been started
and holds nothing, a coherent one that only recorded something, one that has just been started, or one whose NEXT_EVENT
failed or emitted. A lemma for each kind says that it is coherent, and the step is put together from them. -/

namespace Sys2Proof.Machine

/-! ### CAUSE and ERR_INFO by STATE -/

theorem causeFits_live {planes : Nat} {ok : Bool} {phase : Phase} {cause : Cause} {e : ErrInfo}
    (h : phase = .uninit ∨ phase = .reading) :
    causeFits planes ok phase cause e = true ↔ cause = .none ∧ e = ⟨0, 0⟩ := by
  rcases h with rfl | rfl <;> cases cause <;> simp [causeFits]

theorem causeFits_ofEvent {planes : Nat} {x : Exc} (h : x.OfEvent planes) :
    causeFits planes true x.terminal x.cause x.info = true := by
  cases x with
  | streamEnd => rfl
  | ioError sub => rcases h with rfl | rfl <;> rfl
  | recordValidationError plane => exact decide_eq_true h
  | configError sub => exact h.elim
  | mapLoadError => exact h.elim

theorem State.causeFits_configCheck (s : State) {x : Exc} (h : s.configCheck = .error x) :
    x.terminal = .aborted ∧ ∀ planes, causeFits planes false x.terminal x.cause x.info = true := by
  rcases s.configCheck_error h with rfl | rfl | rfl | rfl | rfl <;> exact ⟨rfl, fun _ => rfl⟩

theorem Exc.terminal_terminal (x : Exc) : x.terminal.terminal = true := by
  cases x <;> rfl

/-! ### A session that has not been started -/

/-- What a coherent session holds while CFG_WRITABLE: the reset values, but for CMD_ERR and the memories. -/
structure Session.Unstarted (x : Session) : Prop where
  phase : x.phase = .uninit
  cfgOk : x.cfgOk = false
  eventValid : x.eventValid = false
  cause : x.cause = .none
  errInfo : x.errInfo = ⟨0, 0⟩
  ec : x.ec = 0
  activeMask : x.activeMask = 0
  srcOpen : x.srcOpen = false

theorem Session.reset_unstarted : Session.reset.Unstarted := by
  constructor <;> rfl

theorem State.SessionInv.unstarted {s : State} (hs : s.SessionInv) (hw : s.cfgWritable = true) :
    s.session.Unstarted := by
  obtain ⟨hphase, hok⟩ := s.cfgWritable_iff.mp hw
  obtain ⟨hmask, -, hec, hopen⟩ := hs.unconfigured hok
  obtain ⟨hcause, hinfo⟩ := (causeFits_live (.inl hphase)).mp hs.causeFits
  have hvalid : s.session.eventValid = false := by
    by_contra h
    have hreading := hs.validReading (by simpa using h)
    rw [hphase] at hreading
    cases hreading
  exact ⟨hphase, hok, hvalid, hcause, hinfo, hec, hmask, hopen⟩

theorem State.frameOffset_of_ec_zero (s : State) (h : s.session.ec = 0) : s.frameOffset = 0 := by
  simp [State.frameOffset, h]

/-- An unstarted session is coherent whatever the configuration, the parameters and the surroundings are. -/
theorem sessionInv_of_unstarted {t : State} (hbusy : t.busy = false) (h : t.session.Unstarted) : t.SessionInv where
  notBusy := hbusy
  notOpening := by simp [h.phase]
  causeFits := (causeFits_live (.inl h.phase)).mpr ⟨h.cause, h.errInfo⟩
  configured := by simp [h.cfgOk]
  unconfigured _ := ⟨h.activeMask, .inl h.phase, h.ec, h.srcOpen⟩
  fresh _ := ⟨h.ec, h.srcOpen⟩
  reading := by simp [h.phase]
  validReading := by simp [h.eventValid]
  produced := by simp [t.frameOffset_of_ec_zero h.ec]

/-! ### Steps that only record something -/

theorem State.SessionInv.setCmdErr {s : State} (hs : s.SessionInv) : s.setCmdErr.SessionInv :=
  { hs with }

theorem State.SessionInv.answer {s : State} (hs : s.SessionInv) (v : Word) : (s.answer v).SessionInv :=
  { hs with }

theorem State.SessionInv.withInbox {s : State} (hs : s.SessionInv) (inbox : List HostEvent) :
    State.SessionInv { s with inbox := inbox } :=
  { hs with }

theorem State.SessionInv.clearEventValid {s : State} (hs : s.SessionInv) : (s.setEventValid false).SessionInv :=
  { hs with validReading := by simp }

theorem State.SessionInv.writeCfg {s : State} (hs : s.SessionInv) (f : CfgRegs → CfgRegs) :
    (s.writeCfg f).SessionInv := by
  cases hw : s.cfgWritable with
  | false => rw [s.writeCfg_of_locked f hw]; exact hs.setCmdErr
  | true => rw [s.writeCfg_of_writable f hw]; exact sessionInv_of_unstarted hs.notBusy (hs.unstarted hw)

/-! ### START -/

theorem State.SessionInv.start {s : State} (hs : s.SessionInv) : s.start.SessionInv := by
  rcases s.start_cases with ⟨-, h⟩ | ⟨x, hw, hcheck, h⟩ | ⟨m, hw, hcheck, h⟩
  · rw [h]; exact hs.setCmdErr
  · have hx := s.causeFits_configCheck hcheck
    have hu := hs.unstarted hw
    rw [h]
    exact {
      hs with
      notOpening := by simp [hx.1]
      causeFits := by simpa [hu.cfgOk] using hx.2 _
      unconfigured := by simp [hx.1, hu.activeMask, hu.ec, hu.srcOpen]
      fresh := by simp [hx.1]
      reading := by simp [hx.1]
      validReading := by simp [hu.eventValid] }
  · obtain ⟨hmask, hmin, hmax, hcpc, hcpcMax, -⟩ := s.configCheck_ok hcheck
    have hu := hs.unstarted hw
    rw [h]
    exact {
      hs with
      causeFits := (causeFits_live (.inl hu.phase)).mpr ⟨hu.cause, hu.errInfo⟩
      configured := fun _ => ⟨hmask, hmin, hmax, hcpc, hcpcMax⟩
      unconfigured := by simp }

/-! ### NEXT_EVENT -/

/-- A coherent session that goes on is validated and has no exception recorded. -/
theorem State.SessionInv.started {s : State} (hs : s.SessionInv) (hlive : s.session.phase.terminal = false)
    (hw : s.cfgWritable = false) :
    s.session.cfgOk = true ∧ s.session.cause = .none ∧ s.session.errInfo = ⟨0, 0⟩ := by
  have hphase : s.session.phase = .uninit ∨ s.session.phase = .reading := by
    have := hs.notOpening
    cases h : s.session.phase <;> simp_all [Phase.terminal]
  have hok : s.session.cfgOk = true := by
    by_contra h
    have hnot : s.session.cfgOk = false := by simpa using h
    obtain ⟨-, hfresh, -, -⟩ := hs.unconfigured hnot
    rcases hphase with huninit | hreading
    · rw [s.cfgWritable_iff.mpr ⟨huninit, hnot⟩] at hw; cases hw
    · simp [hreading] at hfresh
  exact ⟨hok, (causeFits_live hphase).mp hs.causeFits⟩

/-- A validated session has a legal configuration after any event, for an event writes no part of it. -/
theorem State.SessionInv.configured_of_sameSetup {s t : State} (hs : s.SessionInv) (h : s.SameSetup t)
    (hok : s.session.cfgOk = true) :
    maskOf t.cfg.boardCount = some t.session.activeMask ∧ Config.wordsNeeded ≤ t.wpe ∧
      t.wpe ≤ t.params.wpeMax.toNat ∧ 1 ≤ t.cpc ∧ t.cpc ≤ t.params.cpcMax.toNat := by
  simpa only [State.wpe, State.cpc, h.cfg, h.params, h.activeMask] using hs.configured hok

theorem State.SameSetup.planes_eq {s t : State} (h : s.SameSetup t) : t.planes = s.planes := by
  rw [State.planes, h.activeMask, State.planes]

theorem State.SameSetup.frameSize_eq {s t : State} (h : s.SameSetup t) : t.frameSize = s.frameSize := by
  simp only [State.frameSize, State.wpe, h.cfg]

theorem State.SessionInv.eventFailed {s t : State} {x : Exc} (hs : s.SessionInv) (hok : s.session.cfgOk = true)
    (hvalid : s.session.eventValid = false) (setup : s.SameSetup t) (hx : x.OfEvent s.planes)
    (h : s.EventFailed t x) : t.SessionInv := by
  have hokT : t.session.cfgOk = true := setup.cfgOk.trans hok
  have hend : t.session.phase.terminal = true := by rw [h.phase]; exact x.terminal_terminal
  exact {
    notBusy := setup.busy.trans hs.notBusy
    notOpening := fun hp => by simp [hp, Phase.terminal] at hend
    causeFits := by
      rw [setup.planes_eq, hokT, h.phase, h.cause, h.errInfo]
      exact causeFits_ofEvent hx
    configured := fun _ => hs.configured_of_sameSetup setup hok
    unconfigured := by simp [hokT]
    fresh := fun hp => by simp [hp, Phase.terminal] at hend
    reading := fun hp => by simp [hp, Phase.terminal] at hend
    validReading := by simp [h.eventValid, hvalid]
    produced := by
      rw [State.frameOffset, setup.frameSize_eq, h.ec, setup.platform]
      exact hs.produced }

theorem srcAddrW_eq : Config.srcAddrW = 64 := rfl

theorem State.SessionInv.frameSize_ge {s : State} (hs : s.SessionInv) (hok : s.session.cfgOk = true) :
    4 * 30785 ≤ s.frameSize := by
  obtain ⟨-, hwpe, -⟩ := hs.configured hok
  rw [wordsNeeded_eq] at hwpe
  rw [State.frameSize]
  omega

/-- EC counts the emitted frame without wrapping: `EC + 1` frames of more than one byte are inside the address width. -/
theorem State.SessionInv.ec_succ {s : State} (hs : s.SessionInv) (hok : s.session.cfgOk = true)
    (hin : s.frameOffset + s.frameSize ≤ 2 ^ Config.srcAddrW) :
    (s.session.ec + 1).toNat = s.session.ec.toNat + 1 := by
  have hwidth : (s.session.ec.toNat + 1) * s.frameSize ≤ 2 ^ 64 := by
    rwa [srcAddrW_eq, State.frameOffset, ← Nat.succ_mul] at hin
  have hbytes : (s.session.ec.toNat + 1) * (4 * 30785) ≤ (s.session.ec.toNat + 1) * s.frameSize :=
    Nat.mul_le_mul_left _ (hs.frameSize_ge hok)
  have hone : (1 : Counter).toNat = 1 := rfl
  exact BitVec.toNat_add_of_lt (by omega)

theorem State.SessionInv.eventEmitted {s t : State} (hs : s.SessionInv) (hok : s.session.cfgOk = true)
    (hcause : s.session.cause = .none) (hinfo : s.session.errInfo = ⟨0, 0⟩) (setup : s.SameSetup t)
    (h : s.EventEmitted t) : t.SessionInv := by
  have hokT : t.session.cfgOk = true := setup.cfgOk.trans hok
  have hec : t.session.ec.toNat = s.session.ec.toNat + 1 := by
    rw [h.ec]
    exact hs.ec_succ hok h.inSource.2
  have hoffset : t.frameOffset = s.frameOffset + s.frameSize := by
    rw [State.frameOffset, setup.frameSize_eq, hec, Nat.add_mul, Nat.one_mul, State.frameOffset]
  exact {
    notBusy := setup.busy.trans hs.notBusy
    notOpening := by simp [h.phase]
    causeFits := (causeFits_live (.inr h.phase)).mpr ⟨h.cause.trans hcause, h.errInfo.trans hinfo⟩
    configured := fun _ => hs.configured_of_sameSetup setup hok
    unconfigured := by simp [hokT]
    fresh := by simp [h.phase]
    reading := fun _ => ⟨h.srcOpen, by omega⟩
    validReading := fun _ => h.phase
    produced := by
      rw [hoffset, setup.platform]
      exact h.inSource }

theorem State.SessionInv.nextEvent {s : State} (hs : s.SessionInv) : s.nextEvent.SessionInv := by
  have hs' := hs.clearEventValid
  rcases s.nextEvent_cases with ⟨-, h⟩ | ⟨-, -, h⟩ | ⟨hlive, hw, h⟩
  · rw [h]; exact hs'
  · rw [h]; exact hs'.setCmdErr
  · rw [h]
    obtain ⟨hok, hcause, hinfo⟩ := hs'.started hlive hw
    have setup := (s.setEventValid false).produceEvent_sameSetup
    rcases (s.setEventValid false).produceEvent_outcome with ⟨x, hx, hfail⟩ | hemit
    · exact hs'.eventFailed hok rfl setup hx hfail
    · exact hs'.eventEmitted hok hcause hinfo setup hemit

/-! ### The step -/

theorem State.SessionInv.newSession {s : State} (hs : s.SessionInv) : s.newSession.SessionInv :=
  sessionInv_of_unstarted hs.notBusy Session.reset_unstarted

theorem State.sessionInv_hardReset (s : State) : s.hardReset.SessionInv :=
  sessionInv_of_unstarted rfl Session.reset_unstarted

theorem State.SessionInv.deliver {s t : State} {w : HostWord} (hs : s.SessionInv) (h : s.deliver w = .next t) :
    t.SessionInv := by
  rcases s.deliver_cases h with
    ⟨v, rfl⟩ | ⟨-, rfl⟩ | ⟨-, rfl | ⟨f, rfl⟩ | rfl | rfl | rfl | rfl⟩
  · exact hs.answer v
  · exact hs.setCmdErr
  · exact hs
  · exact hs.writeCfg f
  · exact hs.start
  · exact hs.nextEvent
  · exact hs.newSession
  · exact hs.setCmdErr

/-- Settles O48: a step holds the state, executes one transaction, resets the block, or attaches a platform to a session
that has not been started. -/
theorem stepKeepsSessionInv : Obligations.StepKeepsSessionInv := by
  intro s t hs hstep
  rcases step_cases s hstep with ⟨-, rfl⟩ | ⟨e, rest, -, ⟨w, -, hdeliver⟩ | ⟨-, rfl⟩ | ⟨p, -, hw, rfl⟩⟩
  · exact hs
  · exact (hs.withInbox rest).deliver hdeliver
  · exact State.sessionInv_hardReset _
  · exact sessionInv_of_unstarted hs.notBusy (hs.unstarted hw)

end Sys2Proof.Machine
end

section
/-! The data stays canonical and inside its bounds. The only writer of FB, SM and G beside the two resets is a frame
that NEXT_EVENT stores, and it stays inside WPE words, 1924 samples and CPC ids. -/

namespace Sys2Proof.Machine

/-- Every cell of a memory that a write of a run leaves was there before or holds a value of the run. -/
theorem Memory.forall_writeRange {α : Type} [OfNat α 0] [DecidableEq α] {P : α → Prop} {m : Memory α} {base : Nat}
    {vs : List α} (hm : ∀ e ∈ m, P e.2) (hvs : ∀ v ∈ vs, P v) : ∀ e ∈ m.writeRange base vs, P e.2 := by
  have hblock : ∀ base, ∀ e ∈ Memory.block base vs, P e.2 := by
    induction vs with
    | nil => simp [Memory.block]
    | cons v vs ih =>
      have ih := ih fun w hw => hvs w (List.mem_cons_of_mem v hw)
      intro base e he
      rw [Memory.block] at he
      split at he
      · exact ih _ e he
      · rcases List.mem_cons.mp he with rfl | he
        · exact hvs v List.mem_cons_self
        · exact ih _ e he
  intro e he
  simp only [Memory.writeRange, List.mem_append, List.mem_filter] at he
  rcases he with (⟨he, -⟩ | he) | ⟨he, -⟩
  · exact hm e he
  · exact hblock base e he
  · exact hm e he

/-- FB, SM and G are canonical and inside their sizes (10_state R45–R47). -/
structure Session.DataFits (params : Params) (x : Session) : Prop where
  fb : Memory.wf x.fb = true ∧ Memory.below x.fb params.wpeMax.toNat = true
  sm : x.sm.length = Config.lines ∧ ∀ m ∈ x.sm, Memory.wf m = true ∧ Memory.below m Config.nSamples = true
  geom : x.geom.length = Config.lines ∧
    ∀ m ∈ x.geom, Memory.wf m = true ∧ Memory.below m params.cpcMax.toNat = true ∧
      ∀ e ∈ m, e.2 < 2 ^ params.geomWidth

theorem State.DataInv.dataFits {s : State} (hs : s.DataInv) : s.session.DataFits s.params :=
  ⟨hs.fb, hs.sm, hs.geom⟩

theorem Session.reset_dataFits (params : Params) : Session.reset.DataFits params where
  fb := ⟨rfl, rfl⟩
  sm := ⟨rfl, fun _ hm => by rw [List.eq_of_mem_replicate hm]; exact ⟨rfl, rfl⟩⟩
  geom := ⟨rfl, fun _ hm => by rw [List.eq_of_mem_replicate hm]; exact ⟨rfl, rfl, by simp⟩⟩

/-- The invariant after a change of the session, CFG and the records alone. -/
theorem State.DataInv.withSession {s : State} (hs : s.DataInv) {t : State} (hparams : t.params = s.params)
    (hplatform : t.platform = s.platform) (hinbox : t.inbox = s.inbox) (hdata : t.session.DataFits s.params) :
    t.DataInv where
  params := hparams ▸ hs.params
  platform := by rw [hplatform, hparams]; exact hs.platform
  events := by rw [hinbox, hparams]; exact hs.events
  fb := hparams ▸ hdata.fb
  sm := hdata.sm
  geom := hparams ▸ hdata.geom

theorem State.DataInv.of_sameMemories {s : State} (hs : s.DataInv) {t : State} (hparams : t.params = s.params)
    (hplatform : t.platform = s.platform) (hinbox : t.inbox = s.inbox) (h : s.SameMemories t) : t.DataInv :=
  hs.withSession hparams hplatform hinbox ⟨h.fb ▸ hs.fb, h.sm ▸ hs.sm, h.geom ▸ hs.geom⟩

/-! ### A stored frame -/

theorem lookups_lt {params : Params} {p : Platform} (hp : p.wf params = true) {planes cpc : Nat} :
    ∀ r ∈ lookups p.map planes cpc, ∀ id ∈ r, id < 2 ^ params.geomWidth := by
  have hmap : ∀ e ∈ p.map, e.id < 2 ^ params.geomWidth := by
    simp only [Platform.wf, Bool.and_eq_true, List.all_eq_true, decide_eq_true_eq] at hp
    exact fun e he => (hp.2 e he).2
  intro r hr id hid
  obtain ⟨k, -, rfl⟩ := List.mem_map.mp hr
  obtain ⟨c, -, rfl⟩ := List.mem_map.mp hid
  exact geomIdOf_lt p.map k c _ hmap

/-- A stored frame fits: its words, samples and ids are as many as the configuration says, and the ids are the map's. -/
theorem State.StoredFrame.dataFits {s t : State} {b : List Byte} (h : s.StoredFrame t b) (hs : s.DataInv)
    (hwpe : s.wpe ≤ s.params.wpeMax.toNat) (hcpc : s.cpc ≤ s.params.cpcMax.toNat) :
    t.session.DataFits s.params where
  fb := by
    have hwords : 0 + (normalizeFrame b).length ≤ s.params.wpeMax.toNat := by
      rw [length_normalizeFrame, h.length, State.frameSize]
      omega
    rw [h.fb]
    exact ⟨Memory.wf_writeRange _ _ _ hs.fb.1, Memory.below_writeRange _ _ _ _ hs.fb.2 hwords⟩
  sm := by
    rw [h.sm, length_writePlanes]
    refine ⟨hs.sm.1, mem_writePlanes _ _ _ hs.sm.2 fun m hm r hr => ?_⟩
    have hlen : 0 + r.length ≤ Config.nSamples := by rw [length_of_mem_demux _ _ r hr, Nat.zero_add]
    exact ⟨Memory.wf_writeRange _ _ _ hm.1, Memory.below_writeRange _ _ _ _ hm.2 hlen⟩
  geom := by
    rw [h.geom, length_writePlanes]
    refine ⟨hs.geom.1, mem_writePlanes _ _ _ hs.geom.2 fun m hm r hr => ?_⟩
    obtain ⟨hwf, hbelow, hids⟩ := hm
    have hlen : 0 + r.length ≤ s.params.cpcMax.toNat := by
      rw [length_of_mem_lookups _ _ _ r hr, Nat.zero_add]; exact hcpc
    exact ⟨Memory.wf_writeRange _ _ _ hwf, Memory.below_writeRange _ _ _ _ hbelow hlen,
      Memory.forall_writeRange hids fun id hid => lookups_lt hs.platform r hr id hid⟩

theorem State.DataInv.produceEvent {s : State} (hs : s.DataInv) (hwpe : s.wpe ≤ s.params.wpeMax.toNat)
    (hcpc : s.cpc ≤ s.params.cpcMax.toNat) : s.produceEvent.DataInv := by
  have setup := s.produceEvent_sameSetup
  rcases s.produceEvent_memories with hsame | ⟨b, hstored⟩
  · exact hs.of_sameMemories setup.params setup.platform setup.inbox hsame
  · exact hs.withSession setup.params setup.platform setup.inbox (hstored.dataFits hs hwpe hcpc)

/-! ### The commands and the step -/

theorem State.DataInv.setCmdErr {s : State} (hs : s.DataInv) : s.setCmdErr.DataInv :=
  hs.of_sameMemories rfl rfl rfl ⟨rfl, rfl, rfl⟩

theorem State.DataInv.writeCfg {s : State} (hs : s.DataInv) (f : CfgRegs → CfgRegs) : (s.writeCfg f).DataInv := by
  cases hw : s.cfgWritable with
  | false => rw [s.writeCfg_of_locked f hw]; exact hs.setCmdErr
  | true => rw [s.writeCfg_of_writable f hw]; exact hs.of_sameMemories rfl rfl rfl ⟨rfl, rfl, rfl⟩

theorem State.DataInv.start {s : State} (hs : s.DataInv) : s.start.DataInv := by
  rcases s.start_cases with ⟨-, h⟩ | ⟨x, -, -, h⟩ | ⟨m, -, -, h⟩
  · rw [h]; exact hs.setCmdErr
  · rw [h]; exact hs.of_sameMemories rfl rfl rfl ⟨rfl, rfl, rfl⟩
  · rw [h]; exact hs.of_sameMemories rfl rfl rfl ⟨rfl, rfl, rfl⟩

theorem State.DataInv.nextEvent {s : State} (hs : s.DataInv) (hinv : s.SessionInv) : s.nextEvent.DataInv := by
  have hs' : (s.setEventValid false).DataInv := hs.of_sameMemories rfl rfl rfl ⟨rfl, rfl, rfl⟩
  rcases s.nextEvent_cases with ⟨-, h⟩ | ⟨-, -, h⟩ | ⟨hlive, hw, h⟩
  · rw [h]; exact hs'
  · rw [h]; exact hs'.setCmdErr
  · obtain ⟨-, -, hwpe, -, hcpc⟩ := hinv.configured (hinv.started hlive hw).1
    rw [h]
    exact hs'.produceEvent hwpe hcpc

theorem State.DataInv.newSession {s : State} (hs : s.DataInv) : s.newSession.DataInv :=
  hs.withSession rfl rfl rfl (Session.reset_dataFits s.params)

theorem State.DataInv.hardReset {s : State} (hs : s.DataInv) : s.hardReset.DataInv :=
  hs.withSession rfl rfl rfl (Session.reset_dataFits s.params)

theorem State.DataInv.deliver {s t : State} {w : HostWord} (hs : s.DataInv) (hinv : s.SessionInv)
    (h : s.deliver w = .next t) : t.DataInv := by
  rcases s.deliver_cases h with
    ⟨v, rfl⟩ | ⟨-, rfl⟩ | ⟨-, rfl | ⟨f, rfl⟩ | rfl | rfl | rfl | rfl⟩
  · exact hs.of_sameMemories rfl rfl rfl ⟨rfl, rfl, rfl⟩
  · exact hs.setCmdErr
  · exact hs
  · exact hs.writeCfg f
  · exact hs.start
  · exact hs.nextEvent hinv
  · exact hs.newSession
  · exact hs.setCmdErr

/-- Taking an event off the inbox, whatever the surroundings become. -/
theorem State.DataInv.takeEvent {s : State} (hs : s.DataInv) {e : HostEvent} {rest : List HostEvent}
    (hinbox : s.inbox = e :: rest) {p : Platform} (hp : p.wf s.params = true) :
    State.DataInv { s with inbox := rest, platform := p } :=
  { hs with
    platform := hp
    events := fun e' he' => hs.events e' (hinbox ▸ List.mem_cons_of_mem e he') }

/-- Settles O49: coherence gives the validated configuration that bounds the frame NEXT_EVENT stores; a platform that
arrives is well-formed because the pending events are. -/
theorem stepKeepsDataInv : Obligations.StepKeepsDataInv := by
  intro s t hinv hs hstep
  rcases step_cases s hstep with ⟨-, rfl⟩ | ⟨e, rest, hinbox, ⟨w, -, hdeliver⟩ | ⟨-, rfl⟩ | ⟨p, rfl, -, rfl⟩⟩
  · exact hs
  · exact (hs.takeEvent hinbox hs.platform).deliver (hinv.withInbox rest) hdeliver
  · exact (hs.takeEvent hinbox hs.platform).hardReset
  · exact hs.takeEvent hinbox (hs.events (.attach p) (hinbox ▸ List.mem_cons_self))

end Sys2Proof.Machine
end

section
/-! What NEXT_EVENT leaves unchanged, from any state: the setup of the session, and of FB, SM and G what lies outside
the frame's words, the active planes' samples and the configured channels. -/

namespace Sys2Proof.Machine

theorem read_writePlanes_outside {α : Type} [OfNat α 0] [DecidableEq α] (ms : List (Memory α)) {rows : List (List α)}
    {n : Nat} (hrows : ∀ r ∈ rows, r.length = n) {k i : Nat} (h : rows.length ≤ k ∨ n ≤ i) :
    (planeAt (writePlanes ms rows) k).read i = (planeAt ms k).read i := by
  by_cases hk : k < ms.length
  · rw [planeAt_writePlanes ms rows k hk]
    split
    · next hrow =>
      have hlen := hrows _ (List.getElem_mem hrow)
      rw [Memory.read_writeRange, if_neg (by omega)]
    · rfl
  · rw [planeAt, planeAt, List.getD_eq_default _ _ (by rw [length_writePlanes]; omega),
      List.getD_eq_default _ _ (by omega)]

/-- What every outcome of NEXT_EVENT leaves unchanged, beside CMD_ERR. -/
structure State.EventFrame (s t : State) : Prop where
  cfg : t.cfg = s.cfg
  cfgOk : t.session.cfgOk = s.session.cfgOk
  activeMask : t.session.activeMask = s.session.activeMask
  busy : t.busy = s.busy
  params : t.params = s.params
  platform : t.platform = s.platform
  inbox : t.inbox = s.inbox
  results : t.results = s.results
  sink : ∃ l, t.sink = s.sink ++ l
  fb : ∀ n, s.wpe ≤ n → Memory.read t.session.fb n = Memory.read s.session.fb n
  sm : ∀ k i, (s.planes ≤ k ∨ Config.nSamples ≤ i) →
    Memory.read (planeAt t.session.sm k) i = Memory.read (planeAt s.session.sm k) i
  geom : ∀ k c, (s.planes ≤ k ∨ s.cpc ≤ c) →
    Memory.read (planeAt t.session.geom k) c = Memory.read (planeAt s.session.geom k) c

section
variable (s : State)

theorem State.setCmdErr_eventFrame : s.EventFrame s.setCmdErr := by
  constructor
  case sink => exact ⟨[], (List.append_nil _).symm⟩
  all_goals intros; rfl

theorem State.produceEvent_sink : ∃ l, s.produceEvent.sink = s.sink ++ l := by
  rcases s.produceEvent_outcome with ⟨x, -, hfail⟩ | hemit
  · exact ⟨[], by rw [hfail.sink, List.append_nil]⟩
  · obtain ⟨c, hc⟩ := hemit.sink
    exact ⟨[c], hc⟩

/-- A stored frame reaches no word at or above WPE, no sample outside the active planes and no id outside G's looked-up
entries. -/
theorem State.StoredFrame.unchanged_outside {s t : State} {b : List Byte} (h : s.StoredFrame t b) :
    (∀ n, s.wpe ≤ n → Memory.read t.session.fb n = Memory.read s.session.fb n) ∧
    (∀ k i, (s.planes ≤ k ∨ Config.nSamples ≤ i) →
      Memory.read (planeAt t.session.sm k) i = Memory.read (planeAt s.session.sm k) i) ∧
    ∀ k c, (s.planes ≤ k ∨ s.cpc ≤ c) →
      Memory.read (planeAt t.session.geom k) c = Memory.read (planeAt s.session.geom k) c := by
  refine ⟨fun n hn => ?_, fun k i hki => ?_, fun k c hkc => ?_⟩
  · have hwords : (normalizeFrame b).length = s.wpe := by
      rw [length_normalizeFrame, h.length, State.frameSize]
      omega
    rw [h.fb, Memory.read_writeRange, if_neg (by omega)]
  · rw [h.sm]
    exact read_writePlanes_outside _ (length_of_mem_demux _ _) (by rwa [length_demux])
  · rw [h.geom]
    exact read_writePlanes_outside _ (length_of_mem_lookups _ _ _) (by rwa [length_lookups])

theorem State.produceEvent_eventFrame : s.EventFrame s.produceEvent := by
  have setup := s.produceEvent_sameSetup
  rcases s.produceEvent_memories with hsame | ⟨b, hstored⟩
  · exact { setup with
      sink := s.produceEvent_sink
      fb := by simp [hsame.fb]
      sm := by simp [hsame.sm]
      geom := by simp [hsame.geom] }
  · obtain ⟨hfb, hsm, hgeom⟩ := hstored.unchanged_outside
    exact { setup with sink := s.produceEvent_sink, fb := hfb, sm := hsm, geom := hgeom }

theorem State.nextEvent_eventFrame : s.EventFrame s.nextEvent := by
  rcases s.nextEvent_cases with ⟨-, h⟩ | ⟨-, -, h⟩ | ⟨-, -, h⟩
  all_goals rw [h]
  · exact { s.setCmdErr_eventFrame with }
  · exact { s.setCmdErr_eventFrame with }
  · exact { (s.setEventValid false).produceEvent_eventFrame with }

theorem State.nextEvent_cmdErr :
    s.nextEvent.session.cmdErr = s.session.cmdErr ∨ (s.cfgWritable = true ∧ s.nextEvent.session.cmdErr = true) := by
  rcases s.nextEvent_cases with ⟨-, h⟩ | ⟨-, hw, h⟩ | ⟨-, -, h⟩
  all_goals rw [h]
  · exact .inl rfl
  · exact .inr ⟨hw, rfl⟩
  · exact .inl (s.setEventValid false).produceEvent_sameSetup.cmdErr

end

/-- Settles O36: past the gate of BUSY, NEXT_EVENT keeps the frame of an event in each of its cases. -/
theorem nextEventFrame : Obligations.NextEventFrame := by
  intro s
  have result : ∃ t, exec .nextEvent s = .next t ∧ s.EventFrame t ∧
      (t.session.cmdErr = s.session.cmdErr ∨ s.busy = true ∨
        (s.session.phase = .uninit ∧ s.session.cfgOk = false)) := by
    refine ⟨_, rfl, ?_⟩
    cases hb : s.busy with
    | true =>
      rw [s.hostWrite_of_busy _ hb]
      exact ⟨s.setCmdErr_eventFrame, .inr (.inl rfl)⟩
    | false =>
      rw [s.hostWrite_of_not_busy _ hb]
      exact ⟨s.nextEvent_eventFrame, s.nextEvent_cmdErr.imp_right fun hw => .inr (s.cfgWritable_iff.mp hw.1)⟩
  obtain ⟨t, hexec, hframe, hcmdErr⟩ := result
  exact ⟨t, hexec, hframe.cfg, hframe.cfgOk, hframe.activeMask, hframe.busy, hframe.params, hframe.platform,
    hframe.inbox, hframe.results, hframe.sink, fun a => by rw [hframe.platform], hframe.fb, hframe.sm, hframe.geom,
    hcmdErr⟩

end Sys2Proof.Machine
end

section
/-! What a coherent state says of EC: the frames it has counted fit the source and the address width. -/

namespace Sys2Proof.Machine

theorem State.SessionInv.ec_le_frames {s : State} (hs : s.SessionInv) (hok : s.session.cfgOk = true) :
    s.session.ec.toNat ≤ s.platform.srcLen / s.frameSize := by
  have hpos : 0 < s.frameSize := Nat.lt_of_lt_of_le (by decide) (hs.frameSize_ge hok)
  exact (Nat.le_div_iff_mul_le hpos).mpr hs.produced.1

/-- A frame is longer than `2 ^ 16` bytes, so fewer than `2 ^ 48` of them fit the address width. -/
theorem State.SessionInv.ec_lt {s : State} (hs : s.SessionInv) : s.session.ec.toNat < 2 ^ 48 := by
  cases hok : s.session.cfgOk with
  | false =>
    obtain ⟨-, -, hec, -⟩ := hs.unconfigured hok
    simp [hec]
  | true =>
    have hwidth : s.session.ec.toNat * s.frameSize ≤ 2 ^ 64 := by
      have := hs.produced.2
      rwa [srcAddrW_eq] at this
    have hbytes : s.session.ec.toNat * (4 * 30785) ≤ s.session.ec.toNat * s.frameSize :=
      Nat.mul_le_mul_left _ (hs.frameSize_ge hok)
    omega

/-- Settles O52: both bounds come from the invariant that every counted frame ends inside the source and inside the
address width. -/
theorem eventCounterNeverWraps : Obligations.EventCounterNeverWraps :=
  fun _ hs => ⟨hs.ec_lt, hs.ec_le_frames⟩

end Sys2Proof.Machine
end

section
/-! The lock of the configuration (10_state R43): no command writes a configuration register, and a write of one passes
only while CFG_WRITABLE. -/

namespace Sys2Proof.Machine

section
variable (s : State)

theorem State.start_cfg : s.start.cfg = s.cfg := by
  rcases s.start_cases with ⟨-, h⟩ | ⟨x, -, -, h⟩ | ⟨m, -, -, h⟩
  all_goals rw [h]; rfl

theorem State.deliver_cfg_of_locked {w : HostWord} {t : State} (hw : s.cfgWritable = false)
    (h : s.deliver w = .next t) : t.cfg = s.cfg := by
  rcases s.deliver_cases h with
    ⟨v, rfl⟩ | ⟨-, rfl⟩ | ⟨-, rfl | ⟨f, rfl⟩ | rfl | rfl | rfl | rfl⟩
  · rfl
  · rfl
  · rfl
  · rw [s.writeCfg_of_locked f hw]; rfl
  · exact s.start_cfg
  · exact s.nextEvent_eventFrame.cfg
  · rfl
  · rfl

end

/-- Settles O53: of the steps that are no reset input, a transaction finds the registers locked and an attachment writes
none of them. -/
theorem configLockedInSession : Obligations.ConfigLockedInSession := by
  intro s t hstep hlocked
  have hw : s.cfgWritable = false := by
    rwa [← s.cfgWritable_iff, Bool.not_eq_true] at hlocked
  rcases step_cases s hstep with ⟨-, rfl⟩ | ⟨e, rest, hinbox, ⟨w, -, hdeliver⟩ | ⟨rfl, -⟩ | ⟨p, -, -, rfl⟩⟩
  · exact .inl rfl
  · exact .inl (State.deliver_cfg_of_locked { s with inbox := rest } hw hdeliver)
  · exact .inr (by rw [hinbox]; rfl)
  · exact .inl rfl

end Sys2Proof.Machine
end

section
/-! The words the status registers read, bit by bit and as numbers (10_state R23–R34). -/

namespace Sys2Proof.Machine

section
variable (s : State)

/-- The bits of STATUS (10_state R23–R30). -/
theorem State.getLsbD_statusWord (i : Nat) :
    s.statusWord.getLsbD i =
      if i < 3 then s.session.phase.code.getLsbD i
      else if i = 3 then s.session.cfgOk
      else if i = 4 then s.session.eventValid
      else if i = 5 then s.session.cmdErr
      else if i = 6 then s.busy
      else if i = 7 then s.platform.mapReady
      else s.session.cause.code.getLsbD (i - 8) := by
  have flag : ∀ (b : Bool) (n : Nat), n < 32 →
      ((BitVec.ofBool b).setWidth 32 <<< n).getLsbD i = (decide (i = n) && b) := by
    intro b n hn
    simp only [BitVec.getLsbD_shiftLeft, BitVec.getLsbD_setWidth, BitVec.getLsbD_ofBool]
    grind
  simp only [State.statusWord, BitVec.getLsbD_or, flag _ 3 (by omega), flag _ 4 (by omega), flag _ 5 (by omega),
    flag _ 6 (by omega), flag _ 7 (by omega), BitVec.getLsbD_shiftLeft, BitVec.getLsbD_setWidth]
  have hphase : 3 ≤ i → s.session.phase.code.getLsbD i = false := BitVec.getLsbD_of_ge _ i
  have hcause : 12 ≤ i → s.session.cause.code.getLsbD (i - 8) = false := fun h =>
    BitVec.getLsbD_of_ge _ _ (by omega)
  grind

/-- The bits of ERR_INFO (10_state R31). -/
theorem ErrInfo.getLsbD_word (e : ErrInfo) (i : Nat) :
    e.word.getLsbD i = if i < 8 then e.subcause.getLsbD i else e.plane.getLsbD (i - 8) := by
  have hsub : 4 ≤ i → e.subcause.getLsbD i = false := BitVec.getLsbD_of_ge _ i
  have hplane : 13 ≤ i → e.plane.getLsbD (i - 8) = false := fun h => BitVec.getLsbD_of_ge _ _ (by omega)
  simp only [ErrInfo.word, BitVec.getLsbD_or, BitVec.getLsbD_shiftLeft, BitVec.getLsbD_setWidth]
  grind

theorem extractLsb'_eq_of_bits {w n start : Nat} {x : BitVec w} {y : BitVec n}
    (h : ∀ i < n, x.getLsbD (start + i) = y.getLsbD i) : x.extractLsb' start n = y :=
  BitVec.eq_of_getLsbD_eq fun i hi => by simpa [hi] using h i hi

theorem extractLsb'_eq_zero_of_bits {w n start : Nat} {x : BitVec w}
    (h : ∀ i < n, x.getLsbD (start + i) = false) : x.extractLsb' start n = 0 :=
  extractLsb'_eq_of_bits fun i hi => (h i hi).trans BitVec.getLsbD_zero.symm

/-- The two halves of EC (10_state R32). -/
theorem State.eventCount_halves :
    s.eventCountHi.toNat * 2 ^ 32 + s.eventCountLo.toNat = s.session.ec.toNat := by
  have hec := s.session.ec.isLt
  simp only [State.eventCountHi, State.eventCountLo, BitVec.extractLsb'_toNat, Nat.shiftRight_eq_div_pow]
  omega

/-- Six bits hold every number of active planes (10_state R34). -/
theorem State.toNat_activePlanesWord : s.activePlanesWord.toNat = s.planes := by
  have hplanes : s.planes ≤ 32 := s.planes_le
  simp only [State.activePlanesWord, BitVec.toNat_setWidth, BitVec.toNat_ofNat]
  omega

end

/-- Settles O13: the fields are read off the bits of the word; the encodings are the model's own tables. -/
theorem readStatusLayout : Obligations.ReadStatusLayout := by
  refine ⟨fun s => ⟨s.statusWord, rfl, extractLsb'_eq_of_bits fun i hi => ?_, s.getLsbD_statusWord 3,
    s.getLsbD_statusWord 4, s.getLsbD_statusWord 5, s.getLsbD_statusWord 6, s.getLsbD_statusWord 7,
    extractLsb'_eq_of_bits fun i hi => ?_, extractLsb'_eq_zero_of_bits fun i hi => ?_⟩, by decide⟩
  all_goals rw [s.getLsbD_statusWord]
  · rw [if_pos (by omega), Nat.zero_add]
  · grind
  · have hcause : s.session.cause.code.getLsbD (12 + i - 8) = false := BitVec.getLsbD_of_ge _ _ (by omega)
    grind

/-- Settles O14: the two fields and the gaps between and above them are read off the bits of the word. -/
theorem readErrInfoLayout : Obligations.ReadErrInfoLayout := by
  refine fun s => ⟨s.session.errInfo.word, rfl, extractLsb'_eq_of_bits fun i hi => ?_,
    extractLsb'_eq_of_bits fun i hi => ?_, extractLsb'_eq_zero_of_bits fun i hi => ?_,
    extractLsb'_eq_zero_of_bits fun i hi => ?_⟩
  all_goals rw [ErrInfo.getLsbD_word]
  · rw [if_pos (by omega), Nat.zero_add]
  · rw [if_neg (by omega), Nat.add_sub_cancel_left]
  · rw [if_pos (by omega), BitVec.getLsbD_of_ge _ _ (by omega)]
  · rw [if_neg (by omega), BitVec.getLsbD_of_ge _ _ (by omega)]

/-- Settles O15: the two reads answer the halves of EC. -/
theorem readEventCountHalves : Obligations.ReadEventCountHalves :=
  fun s => ⟨s.eventCountLo, s.eventCountHi, rfl, rfl, s.eventCount_halves⟩

/-- Settles O16: the word is the number of active planes, at most 32. -/
theorem readActivePlanesCount : Obligations.ReadActivePlanesCount := by
  refine fun s => ⟨s.activePlanesWord, rfl, s.toNat_activePlanesWord, extractLsb'_eq_zero_of_bits fun i hi => ?_⟩
  rw [State.activePlanesWord, BitVec.getLsbD_setWidth, BitVec.getLsbD_of_ge _ (6 + i) (by omega), Bool.and_false]

end Sys2Proof.Machine
end

section
/-! The word a transaction was decoded from is the encoding of its instruction (30_encoding R80–R82). -/

namespace Sys2Proof

theorem Descriptor.eq_wr_of_wellFormed {d : Descriptor} (hwf : d.wellFormed = true) (hwrite : d.write = true) :
    d = .wr d.offset d.data := by
  obtain ⟨write, rsvd, offset, data⟩ := d
  simp_all [Descriptor.wellFormed, Descriptor.reservedClear, Descriptor.wr]

theorem Descriptor.eq_rd_of_wellFormed {d : Descriptor} (hwf : d.wellFormed = true) (hread : d.write = false) :
    d = .rd d.offset := by
  obtain ⟨write, rsvd, offset, data⟩ := d
  simp_all [Descriptor.wellFormed, Descriptor.reservedClear, Descriptor.readDataClear, Descriptor.rd]

theorem encode_of_decode_eq_instr {w : HostWord} {i : Instr} (h : decode w = .instr i) : encode i = w := by
  have hfields : encodeDescriptor i = Descriptor.ofWord w := by
    simp only [decode] at h
    split at h
    · next hwf =>
      split at h
      · next hwrite =>
        split at h
        · next j hj =>
          cases h
          rw [decodeWrite_descriptor hj, ← Descriptor.eq_wr_of_wellFormed hwf hwrite]
        · cases h
      · next hread =>
        split at h
        · next j hj =>
          cases h
          rw [decodeRead_descriptor hj, ← Descriptor.eq_rd_of_wellFormed hwf (Bool.eq_false_of_not_eq_true hread)]
        · cases h
    · cases h
  rw [encode, hfields, Descriptor.toWord_ofWord]

theorem eq_three_of_decodeCmd32_eq_sessionReset {v : Word} (h : decodeCmd32 v = some .sessionReset) : v = 3 := by
  unfold decodeCmd32 at h
  split at h
  case h_4 hv => exact BitVec.eq_of_toNat_eq hv
  all_goals cases h

end Sys2Proof
end

section
/-! CMD_ERR is sticky (10_state R26): every instruction but the write of SESSION_RESET's word to CTRL keeps it set. -/

namespace Sys2Proof.Machine

theorem State.hostWrite_cmdErr {s : State} {f : State → State} (hf : (f s).session.cmdErr = true) :
    (s.hostWrite f).session.cmdErr = true := by
  unfold State.hostWrite
  split
  · rfl
  · exact hf

section
variable {s : State} (hset : s.session.cmdErr = true)
include hset

theorem State.writeCfg_cmdErr (f : CfgRegs → CfgRegs) : (s.writeCfg f).session.cmdErr = true := by
  unfold State.writeCfg
  split
  · exact hset
  · rfl

theorem State.start_cmdErr : s.start.session.cmdErr = true := by
  rcases s.start_cases with ⟨-, h⟩ | ⟨x, -, -, h⟩ | ⟨m, -, -, h⟩
  all_goals rw [h]
  · rfl
  · exact hset
  · exact hset

theorem State.nextEvent_keeps_cmdErr : s.nextEvent.session.cmdErr = true := by
  rcases s.nextEvent_cmdErr with h | ⟨-, h⟩
  · exact h.trans hset
  · exact h

theorem State.runCommand_cmdErr {v : Word} (hv : v ≠ 3) : (s.runCommand v).session.cmdErr = true := by
  unfold State.runCommand
  split
  · exact hset
  · exact State.start_cmdErr hset
  · exact State.nextEvent_keeps_cmdErr hset
  · next h => exact absurd (eq_three_of_decodeCmd32_eq_sessionReset h) hv
  · rfl

theorem exec_cmdErr (i : Instr) :
    encodeDescriptor i = .wr 0x00 3 ∨ ∃ t, exec i s = .next t ∧ t.session.cmdErr = true := by
  cases i
  case sessionReset => exact .inl rfl
  case start => exact .inr ⟨_, rfl, State.hostWrite_cmdErr (State.start_cmdErr hset)⟩
  case nextEvent => exact .inr ⟨_, rfl, State.hostWrite_cmdErr (State.nextEvent_keeps_cmdErr hset)⟩
  case wrCtrl v =>
    by_cases hv : v = 3
    · exact .inl (by rw [hv]; rfl)
    · exact .inr ⟨_, rfl, State.hostWrite_cmdErr (State.runCommand_cmdErr hset hv)⟩
  case wrBoardCount | wrWordsPerEvent | wrChannelsPerChip | wrHexaboardCount | wrChipsPerHexaboard | wrOutputKey =>
    exact .inr ⟨_, rfl, State.hostWrite_cmdErr (State.writeCfg_cmdErr hset _)⟩
  case nop | wrStatus | wrErrInfo | wrEventCountLo | wrEventCountHi | wrActiveMask | wrActivePlanes | wrCapWpeMax
      | wrCapCpcMax =>
    exact .inr ⟨_, rfl, State.hostWrite_cmdErr hset⟩
  all_goals exact .inr ⟨_, rfl, hset⟩

theorem State.deliver_cmdErr {w : HostWord} {t : State} (h : s.deliver w = .next t) :
    t.session.cmdErr = true ∨ w = sresetWord := by
  unfold State.deliver at h
  split at h
  · next i hi =>
    rcases exec_cmdErr hset i with hreset | ⟨t', ht', herr⟩
    · rw [← encode_of_decode_eq_instr hi, encode, hreset]
      exact .inr rfl
    · rw [ht'] at h
      cases h
      exact .inl herr
  · cases h; exact .inl hset
  · cases h; exact .inl (State.hostWrite_cmdErr hset)
  · cases h

end

/-- Settles O54: a transaction that clears CMD_ERR is the word of SESSION_RESET, and an attachment writes no session
state. -/
theorem cmdErrIsSticky : Obligations.CmdErrIsSticky := by
  intro s t hstep hset
  rcases step_cases s hstep with ⟨-, rfl⟩ | ⟨e, rest, hinbox, ⟨w, rfl, hdeliver⟩ | ⟨rfl, -⟩ | ⟨p, -, -, rfl⟩⟩
  · exact .inl hset
  · rw [hinbox]
    rcases State.deliver_cmdErr (s := { s with inbox := rest }) hset hdeliver with h | rfl
    · exact .inl h
    · exact .inr (.inr rfl)
  · exact .inr (.inl (by rw [hinbox]; rfl))
  · exact .inl hset

end Sys2Proof.Machine
end

section
/-! HEXABOARD_COUNT and CHIPS_PER_HEXABOARD are stored and read, and used by nothing else (10_state R38, R39): every
operation commutes with putting other values into them. -/

namespace Sys2Proof.Machine

/-- The state with other values in the two hexaboard registers. -/
def State.withHexaboards (s : State) (h c : Word) : State :=
  { s with cfg := { s.cfg with hexaboardCount := h, chipsPerHexaboard := c } }

section
variable (s : State) (h c : Word)

theorem State.hostWrite_withHexaboards {f : State → State}
    (hf : f (s.withHexaboards h c) = (f s).withHexaboards h c) :
    (s.withHexaboards h c).hostWrite f = (s.hostWrite f).withHexaboards h c := by
  have hbusy : (s.withHexaboards h c).busy = s.busy := rfl
  cases hb : s.busy with
  | true => rw [s.hostWrite_of_busy f hb, State.hostWrite_of_busy _ f (hbusy.trans hb)]; rfl
  | false => rw [s.hostWrite_of_not_busy f hb, State.hostWrite_of_not_busy _ f (hbusy.trans hb), hf]

theorem State.writeCfg_withHexaboards {f : CfgRegs → CfgRegs}
    (hf : f { s.cfg with hexaboardCount := h, chipsPerHexaboard := c } =
      { f s.cfg with hexaboardCount := h, chipsPerHexaboard := c }) :
    (s.withHexaboards h c).writeCfg f = (s.writeCfg f).withHexaboards h c := by
  have hwritable : (s.withHexaboards h c).cfgWritable = s.cfgWritable := rfl
  cases hw : s.cfgWritable with
  | true =>
    rw [s.writeCfg_of_writable f hw, State.writeCfg_of_writable _ f (hwritable.trans hw)]
    simp only [State.withHexaboards, hf]
  | false => rw [s.writeCfg_of_locked f hw, State.writeCfg_of_locked _ f (hwritable.trans hw)]; rfl

theorem State.start_withHexaboards : (s.withHexaboards h c).start = s.start.withHexaboards h c := by
  have hwritable : (s.withHexaboards h c).cfgWritable = s.cfgWritable := rfl
  have hcheck : (s.withHexaboards h c).configCheck = s.configCheck := rfl
  unfold State.start
  rw [hwritable, hcheck]
  cases s.cfgWritable with
  | false => rfl
  | true => cases s.configCheck <;> rfl

/-! ### NEXT_EVENT -/

theorem State.frameOpen_withHexaboards :
    (s.withHexaboards h c).frameOpen = (s.frameOpen.1.withHexaboards h c, s.frameOpen.2) := by
  have hopen : (s.withHexaboards h c).session.srcOpen = s.session.srcOpen := rfl
  have hanswer : ((s.withHexaboards h c).setPhase .opening).openAnswer = (s.setPhase .opening).openAnswer := rfl
  simp only [State.frameOpen, hopen, hanswer]
  cases s.session.srcOpen with
  | true => rfl
  | false => cases (s.setPhase .opening).openAnswer <;> rfl

theorem State.frameRead_withHexaboards :
    (s.withHexaboards h c).frameRead = (s.frameRead.1.withHexaboards h c, s.frameRead.2) := rfl

theorem State.assemble_withHexaboards : (s.withHexaboards h c).assemble = s.assemble.withHexaboards h c := by
  have hcheck : (s.withHexaboards h c).firstInvalid = s.firstInvalid := rfl
  unfold State.assemble
  rw [hcheck]
  cases s.firstInvalid <;> rfl

theorem State.processFrame_withHexaboards (b : List Byte) :
    (s.withHexaboards h c).processFrame b = (s.processFrame b).withHexaboards h c :=
  (s.prepared b).assemble_withHexaboards h c

theorem State.produceEvent_withHexaboards :
    (s.withHexaboards h c).produceEvent = s.produceEvent.withHexaboards h c := by
  unfold State.produceEvent
  rw [s.frameOpen_withHexaboards]
  rcases s.frameOpen with ⟨s1, _ | x⟩
  · simp only [s1.frameRead_withHexaboards]
    rcases s1.frameRead with ⟨s2, x | b⟩
    · rfl
    · exact s2.processFrame_withHexaboards h c b
  · rfl

theorem State.nextEvent_eq :
    s.nextEvent =
      if s.session.phase.terminal then s.setEventValid false
      else if s.cfgWritable then (s.setEventValid false).setCmdErr
      else (s.setEventValid false).produceEvent := rfl

theorem State.nextEvent_withHexaboards : (s.withHexaboards h c).nextEvent = s.nextEvent.withHexaboards h c := by
  have hphase : (s.withHexaboards h c).session.phase = s.session.phase := rfl
  have hwritable : (s.withHexaboards h c).cfgWritable = s.cfgWritable := rfl
  rw [State.nextEvent_eq, s.nextEvent_eq, hphase, hwritable]
  split
  · rfl
  · split
    · rfl
    · exact (s.setEventValid false).produceEvent_withHexaboards h c

theorem State.runCommand_withHexaboards (v : Word) :
    (s.withHexaboards h c).runCommand v = (s.runCommand v).withHexaboards h c := by
  unfold State.runCommand
  split
  · rfl
  · exact s.start_withHexaboards h c
  · exact s.nextEvent_withHexaboards h c
  · rfl
  · rfl

theorem exec_withHexaboards {i : Instr} (hrdHexa : i ≠ .rdHexaboardCount) (hrdChips : i ≠ .rdChipsPerHexaboard)
    (hwrHexa : ∀ v, i ≠ .wrHexaboardCount v) (hwrChips : ∀ v, i ≠ .wrChipsPerHexaboard v) :
    ∃ t, exec i s = .next t ∧ exec i (s.withHexaboards h c) = .next (t.withHexaboards h c) := by
  have gate {f : State → State} (hf : f (s.withHexaboards h c) = (f s).withHexaboards h c) :=
    congrArg (Host.Outcome.next (φ := Fault) (ρ := Refusal)) (s.hostWrite_withHexaboards h c hf)
  cases i
  case rdHexaboardCount => exact absurd rfl hrdHexa
  case rdChipsPerHexaboard => exact absurd rfl hrdChips
  case wrHexaboardCount v => exact absurd rfl (hwrHexa v)
  case wrChipsPerHexaboard v => exact absurd rfl (hwrChips v)
  case start => exact ⟨_, rfl, gate (s.start_withHexaboards h c)⟩
  case nextEvent => exact ⟨_, rfl, gate (s.nextEvent_withHexaboards h c)⟩
  case wrCtrl v => exact ⟨_, rfl, gate (s.runCommand_withHexaboards h c v)⟩
  case wrBoardCount | wrWordsPerEvent | wrChannelsPerChip | wrOutputKey =>
    exact ⟨_, rfl, gate (s.writeCfg_withHexaboards h c rfl)⟩
  case nop | sessionReset | wrStatus | wrErrInfo | wrEventCountLo | wrEventCountHi | wrActiveMask | wrActivePlanes
      | wrCapWpeMax | wrCapCpcMax =>
    exact ⟨_, rfl, gate rfl⟩
  all_goals exact ⟨_, rfl, rfl⟩

end

/-- Settles O59: the state with other values in the two registers takes every other instruction to the same next state
with those values in them. -/
theorem hexaboardRegistersUnused : Obligations.HexaboardRegistersUnused := by
  intro i s t h c hrdHexa hrdChips hwrHexa hwrChips hexec
  obtain ⟨t', hnext, hnext'⟩ := exec_withHexaboards s h c hrdHexa hrdChips hwrHexa hwrChips
  rw [hnext] at hexec
  cases hexec
  exact hnext'

end Sys2Proof.Machine
end

section
/-! The read of frame EC in a started session (20_memory R64, 40_frame_reader R103, R104): the open that precedes it,
the requests it leaves in the log, and its three answers with End before IoErr. -/

namespace Sys2Proof.Machine

section
variable (s : State)

/-! ### The source once it is open -/

/-- `State.opened` field by field: an open takes one draw, logs one request and leaves STATE = OPEN. -/
theorem State.opened_eq_open :
    s.opened =
      { s with
        openDraws := if s.session.srcOpen then s.openDraws else s.openDraws.tail
        srcLog := s.srcLog ++ if s.session.srcOpen then [] else [.srcOpen]
        session := { s.session with phase := if s.session.srcOpen then s.session.phase else .opening,
                                    srcOpen := true } } := by
  unfold State.opened
  cases h : s.session.srcOpen with
  | true => simp [← h]
  | false => simp [State.afterOpen]

@[simp] theorem State.opened_pastEnd (off n : Nat) : s.opened.pastEnd off n = s.pastEnd off n := by
  rw [State.opened_eq_open]; rfl

@[simp] theorem State.opened_frameSize : s.opened.frameSize = s.frameSize := by
  rw [State.opened_eq_open]; rfl

@[simp] theorem State.opened_frameOffset : s.opened.frameOffset = s.frameOffset := by
  rw [State.opened_eq_open]; rfl

/-- The request number a free I/O draw depends on counts the open, if there was one. -/
@[simp] theorem State.opened_ioErrAnswer_frameOffset : s.opened.ioErrAnswer s.frameOffset = s.readFails := by
  have hlog : s.opened.srcLog.length = s.srcLog.length + if s.session.srcOpen then 0 else 1 := by
    rw [State.opened_eq_open]
    cases s.session.srcOpen <;> simp
  have hdraws : s.opened.ioErrDraws = s.ioErrDraws := by rw [State.opened_eq_open]
  simp only [State.ioErrAnswer, State.readFails, hlog, hdraws]
  rfl

/-- Frame EC ends at byte `(EC + 1) * frameSize`. -/
theorem State.pastEnd_frame : s.pastEnd s.frameOffset s.frameSize = !s.frameInSource := by
  have hend : s.frameOffset + s.frameSize = (s.session.ec.toNat + 1) * (4 * s.cfg.wordsPerEvent.toNat) :=
    (Nat.succ_mul _ _).symm
  simp only [State.pastEnd, hend, State.frameInSource, srcAddrW_eq, Bool.not_and, ← decide_not, Nat.not_le]

/-! ### The request for frame EC -/

/-- The state once frame EC has been requested, with the source opened first if it was not open. -/
def State.frameRequested : State := s.opened.afterRead s.frameOffset s.frameSize

theorem State.frameRequested_eq :
    s.frameRequested =
      { s with
        openDraws := if s.session.srcOpen then s.openDraws else s.openDraws.tail
        ioErrDraws := if s.frameInSource then s.ioErrDraws.tail else s.ioErrDraws
        srcLog := s.srcLog ++ s.eventRequests
        session := { s.session with phase := if s.session.srcOpen then s.session.phase else .opening,
                                    srcOpen := true } } := by
  rw [State.frameRequested, State.afterRead, State.opened_pastEnd, State.pastEnd_frame, State.opened_eq_open]
  simp only [List.append_assoc]
  cases s.frameInSource <;> rfl

/-- The three answers to the request, in their order of priority (20_memory R64, 40_frame_reader R104). -/
theorem State.produceEvent_of_canOpen (hopen : s.canOpen = true) :
    s.produceEvent =
      if s.frameInSource then
        if s.readFails then s.frameRequested.raise (.ioError 2)
        else s.frameRequested.processFrame (Memory.readRange s.platform.srcBytes s.frameOffset s.frameSize)
      else s.frameRequested.raise .streamEnd := by
  have hcases := s.produceEvent_cases
  simp only [State.opened_frameOffset, State.opened_frameSize, State.opened_pastEnd,
    State.opened_ioErrAnswer_frameOffset, State.pastEnd_frame, Bool.not_eq_true', Bool.not_eq_false'] at hcases
  rcases hcases with ⟨hclosed, hrefused, -⟩ | ⟨-, ⟨hend, h⟩ | ⟨hin, hfails, h⟩ | ⟨hin, hreads, h⟩⟩
  · simp [State.canOpen, hclosed, hrefused] at hopen
  · simpa [State.frameRequested, hend] using h
  · simpa [State.frameRequested, hin, hfails] using h
  · simpa [State.frameRequested, hin, hreads] using h

/-! ### NEXT_EVENT in a started session -/

@[simp] theorem State.setEventValid_frameInSource (b : Bool) :
    (s.setEventValid b).frameInSource = s.frameInSource := rfl

@[simp] theorem State.setEventValid_readFails (b : Bool) : (s.setEventValid b).readFails = s.readFails := rfl

theorem State.nextEvent_of_eventReady (hready : s.eventReady = true) :
    s.nextEvent = (s.setEventValid false).produceEvent := by
  have hphase : (s.session.phase = .uninit ∧ s.session.cfgOk = true) ∨ s.session.phase = .reading := by
    simpa [State.eventReady] using hready
  rcases s.nextEvent_cases with ⟨hend, -⟩ | ⟨-, hw, -⟩ | ⟨-, -, h⟩
  · rcases hphase with ⟨hp, -⟩ | hp <;> simp [hp, Phase.terminal] at hend
  · obtain ⟨huninit, hok⟩ := s.cfgWritable_iff.mp hw
    simp [huninit, hok] at hphase
  · exact h

theorem exec_nextEvent_of_eventReady (hbusy : s.busy = false) (hready : s.eventReady = true) :
    exec .nextEvent s = .next (s.setEventValid false).produceEvent := by
  have hexec : exec .nextEvent s = .next (s.hostWrite State.nextEvent) := rfl
  rw [hexec, s.hostWrite_of_not_busy _ hbusy, s.nextEvent_of_eventReady hready]

end

/-- Settles O32: a frame past the end answers End, whatever the draw. -/
theorem nextEventStreamEnd : Obligations.NextEventStreamEnd := by
  intro s hbusy hready hopen hend
  rw [exec_nextEvent_of_eventReady s hbusy hready, State.produceEvent_of_canOpen (s.setEventValid false) hopen,
    State.frameRequested_eq]
  simp only [State.setEventValid_frameInSource, hend]
  rfl

/-- Settles O33: a frame inside the source leaves the answer to the draw. -/
theorem nextEventReadFails : Obligations.NextEventReadFails := by
  intro s hbusy hready hopen hin hfails
  rw [exec_nextEvent_of_eventReady s hbusy hready, State.produceEvent_of_canOpen (s.setEventValid false) hopen,
    State.frameRequested_eq]
  simp only [State.setEventValid_frameInSource, State.setEventValid_readFails, hin, hfails]
  rfl

end Sys2Proof.Machine
end

section
/-! The parameters and the surroundings (10_state R48, 20_memory R74): no transaction writes them, and of the other
events only an attachment before START does. -/

namespace Sys2Proof.Machine

section
variable (s : State)

theorem State.writeCfg_params_platform (f : CfgRegs → CfgRegs) :
    (s.writeCfg f).params = s.params ∧ (s.writeCfg f).platform = s.platform := by
  unfold State.writeCfg
  split <;> exact ⟨rfl, rfl⟩

theorem State.start_params_platform : s.start.params = s.params ∧ s.start.platform = s.platform := by
  rcases s.start_cases with ⟨-, h⟩ | ⟨x, -, -, h⟩ | ⟨m, -, -, h⟩
  all_goals rw [h]; exact ⟨rfl, rfl⟩

theorem State.deliver_params_platform {w : HostWord} {t : State} (h : s.deliver w = .next t) :
    t.params = s.params ∧ t.platform = s.platform := by
  rcases s.deliver_cases h with
    ⟨v, rfl⟩ | ⟨-, rfl⟩ | ⟨-, rfl | ⟨f, rfl⟩ | rfl | rfl | rfl | rfl⟩
  · exact ⟨rfl, rfl⟩
  · exact ⟨rfl, rfl⟩
  · exact ⟨rfl, rfl⟩
  · exact s.writeCfg_params_platform f
  · exact s.start_params_platform
  · exact ⟨s.nextEvent_eventFrame.params, s.nextEvent_eventFrame.platform⟩
  · exact ⟨rfl, rfl⟩
  · exact ⟨rfl, rfl⟩

end

/-- Settles O57: a transaction and the reset input keep the surroundings, and an attachment is taken only while
CFG_WRITABLE. -/
theorem platformConstantInSession : Obligations.PlatformConstantInSession := by
  intro s t hstep
  rcases step_cases s hstep with ⟨-, rfl⟩ | ⟨e, rest, hinbox, ⟨w, -, hdeliver⟩ | ⟨-, rfl⟩ | ⟨p, rfl, hw, rfl⟩⟩
  · exact ⟨rfl, .inl rfl⟩
  · exact (State.deliver_params_platform { s with inbox := rest } hdeliver).imp_right .inl
  · exact ⟨rfl, .inl rfl⟩
  · obtain ⟨huninit, hok⟩ := s.cfgWritable_iff.mp hw
    exact ⟨rfl, .inr ⟨p, by rw [hinbox]; rfl, huninit, hok, rfl⟩⟩

end Sys2Proof.Machine
end

section
/-! The decoder and the encoder undo each other (30_encoding R80–R90). The idea of the part: a valid descriptor is `.rd o`
or `.wr o v`, and its word unpacks to the same fields, so `decode` of the word is `decodeRead o` or `decodeWrite o v`. -/

namespace Sys2Proof

/-! ### Valid descriptors (30_encoding R81) -/

theorem Descriptor.wellFormed_eq_false_iff (d : Descriptor) :
    d.wellFormed = false ↔ d.rsvd ≠ 0 ∨ (d.write = false ∧ d.data ≠ 0) := by
  simp [Descriptor.wellFormed, Descriptor.reservedClear, Descriptor.readDataClear, Classical.or_iff_not_imp_left]

/-- The word of a valid descriptor is that of a read of its OFFSET or of a write of its DATA to its OFFSET. -/
theorem Descriptor.eq_toWord_rd_or_wr {w : HostWord} (hwf : (Descriptor.ofWord w).wellFormed = true) :
    (w.getLsbD 47 = false ∧ w = (Descriptor.rd (w.extractLsb' 32 8)).toWord) ∨
    (w.getLsbD 47 = true ∧ w = (Descriptor.wr (w.extractLsb' 32 8) (w.extractLsb' 0 32)).toWord) := by
  have packed := Descriptor.toWord_ofWord w
  cases hwrite : w.getLsbD 47 with
  | false =>
    rw [Descriptor.eq_rd_of_wellFormed hwf hwrite] at packed
    exact .inl ⟨rfl, packed.symm⟩
  | true =>
    rw [Descriptor.eq_wr_of_wellFormed hwf hwrite] at packed
    exact .inr ⟨rfl, packed.symm⟩

/-! ### What a valid descriptor decodes to (30_encoding R82) -/

theorem decode_toWord_rd (o : BitVec 8) :
    decode (Descriptor.rd o).toWord = (decodeRead o).elim (.unassignedRead o) .instr := by
  rw [decode, Descriptor.ofWord_toWord]
  cases h : decodeRead o <;>
    simp [Descriptor.rd, Descriptor.wellFormed, Descriptor.reservedClear, Descriptor.readDataClear, h]

theorem decode_toWord_wr (o : BitVec 8) (v : Word) :
    decode (Descriptor.wr o v).toWord = (decodeWrite o v).elim (.unassignedWrite o v) .instr := by
  rw [decode, Descriptor.ofWord_toWord]
  cases h : decodeWrite o v <;>
    simp [Descriptor.wr, Descriptor.wellFormed, Descriptor.reservedClear, Descriptor.readDataClear, h]

theorem decode_toWord_rd_of_some {o : BitVec 8} {i : Instr} (h : decodeRead o = some i) :
    decode (Descriptor.rd o).toWord = .instr i := by
  rw [decode_toWord_rd, h, Option.elim_some]

theorem decode_toWord_wr_of_some {o : BitVec 8} {v : Word} {i : Instr} (h : decodeWrite o v = some i) :
    decode (Descriptor.wr o v).toWord = .instr i := by
  rw [decode_toWord_wr, h, Option.elim_some]

theorem decode_eq_reservedBits_iff (w : HostWord) :
    decode w = .reservedBits ↔ (Descriptor.ofWord w).wellFormed = false := by
  cases hwf : (Descriptor.ofWord w).wellFormed with
  | false => simp [decode, hwf]
  | true =>
    refine iff_of_false (fun h => ?_) Bool.noConfusion
    rw [decode, if_pos hwf] at h
    (repeat' split at h) <;> cases h

/-- Every instruction but the four commands is the one its own descriptor decodes to. -/
theorem decode_encode_of_access {i : Instr} (h : encodeCmd32 i = none) : decode (encode i) = .instr i := by
  cases i
  case nop | start | nextEvent | sessionReset => cases h
  case rdCtrl | rdStatus | rdErrInfo | rdEventCountLo | rdEventCountHi | rdActiveMask | rdActivePlanes | rdBoardCount
      | rdWordsPerEvent | rdChannelsPerChip | rdHexaboardCount | rdChipsPerHexaboard | rdOutputKey | rdCapWpeMax
      | rdCapCpcMax => exact decode_toWord_rd_of_some rfl
  all_goals exact decode_toWord_wr_of_some rfl

/-! ### The command words (30_encoding R83, R84) -/

theorem decodeCmd32_eq_some_iff {i : Instr} {c : Word} : decodeCmd32 c = some i ↔ encodeCmd32 i = some c := by
  constructor
  · intro h
    unfold decodeCmd32 at h
    split at h
    case h_5 => cases h
    all_goals next hc => cases h; exact congrArg some (BitVec.eq_of_toNat_eq hc).symm
  · intro h
    cases i <;> cases h <;> rfl

theorem decodeCmd32_eq_ite (v : Word) : decodeCmd32 v =
    if v = 0 then some .nop else if v = 1 then some .start else if v = 2 then some .nextEvent
    else if v = 3 then some .sessionReset else none := by
  split_ifs with h0 h1 h2 h3
  case neg =>
    refine Option.eq_none_iff_forall_ne_some.mpr fun i hi => ?_
    have command : encodeCmd32 i = some v := decodeCmd32_eq_some_iff.mp hi
    cases i <;> cases command <;> contradiction
  all_goals subst v; rfl

/-- A command travels as the write of its CMD32 word to CTRL (30_encoding R83, R89). -/
theorem encode_of_command {i : Instr} {c : Word} (h : encodeCmd32 i = some c) :
    encode i = (Descriptor.wr 0x00 c).toWord := by
  cases i <;> cases h <;> rfl

/-! ### The opcode table's two formats (30_encoding R87) -/

theorem decodeTableWord_cmd32 (c : Word) : decodeTableWord 32 c.toNat = decodeCmd32 c := by
  simp [decodeTableWord, c.isLt]

theorem decodeTableWord_htx48 {w : HostWord} {i : Instr} (h : decode w = .instr i) :
    decodeTableWord 48 w.toNat = some i := by
  simp [decodeTableWord, w.isLt, h]

/-- The bits of a row are a command's word or an HTX48 descriptor, by the row's width. -/
theorem decodeTableWord_cases {nbits w : Nat} {i : Instr} (h : decodeTableWord nbits w = some i) :
    (nbits ≤ 32 ∧ decodeCmd32 (BitVec.ofNat 32 w) = some i) ∨
    (¬ nbits ≤ 32 ∧ decode (BitVec.ofNat 48 w) = .instr i) := by
  unfold decodeTableWord at h
  split at h
  · next h32 =>
    split at h
    · exact .inl ⟨h32, h⟩
    · cases h
  · next h32 =>
    refine .inr ⟨h32, ?_⟩
    split at h
    · split at h
      · split at h
        · next hdecode => cases h; exact hdecode
        · cases h
      · cases h
    · cases h

/-! ### The words as numbers (30_encoding R90) -/

theorem toNat_offsetField (o : BitVec 8) : (o.setWidth 48 <<< 32).toNat = o.toNat <<< 32 := by
  simp only [BitVec.toNat_shiftLeft, BitVec.toNat_setWidth, Nat.shiftLeft_eq]
  omega

theorem Descriptor.toNat_toWord_rd (o : BitVec 8) : (Descriptor.rd o).toWord.toNat = o.toNat <<< 32 := by
  rw [← toNat_offsetField]
  simp [Descriptor.rd, Descriptor.toWord]

theorem Descriptor.toNat_toWord_wr (o : BitVec 8) (v : Word) :
    (Descriptor.wr o v).toWord.toNat = 0x800000000000 ||| (o.toNat <<< 32) ||| v.toNat := by
  have data : (v.setWidth 48).toNat = v.toNat := BitVec.toNat_setWidth_of_le (by decide)
  rw [← toNat_offsetField, ← data]
  simp [Descriptor.wr, Descriptor.toWord]

/-! ### The register offsets (10_state R21) -/

theorem offset_encodeDescriptor_mem (i : Instr) : (encodeDescriptor i).offset ∈ Machine.registerOffsets := by
  cases i <;> simp [encodeDescriptor, Descriptor.rd, Descriptor.wr, Machine.registerOffsets]

theorem decodeRead_isSome_iff {o : BitVec 8} : (decodeRead o).isSome = true ↔ o ∈ Machine.registerOffsets := by
  constructor
  · intro h
    obtain ⟨i, hi⟩ := Option.isSome_iff_exists.mp h
    have mem := offset_encodeDescriptor_mem i
    rwa [decodeRead_descriptor hi] at mem
  · revert o
    decide

theorem decodeWrite_isSome_iff {o : BitVec 8} (v : Word) :
    (decodeWrite o v).isSome = true ↔ o ∈ Machine.registerOffsets := by
  rw [← decodeRead_isSome_iff]
  unfold decodeWrite decodeRead
  split <;> simp_all

theorem encodeDescriptor_of_decode_eq_instr {w : HostWord} {i : Instr} (h : decode w = .instr i) :
    encodeDescriptor i = Descriptor.ofWord w := by
  rw [← encode_of_decode_eq_instr h, encode, Descriptor.ofWord_toWord]

section
variable {w : HostWord} (hwf : (Descriptor.ofWord w).wellFormed = true)
include hwf

theorem decode_of_registerOffset (hmem : w.extractLsb' 32 8 ∈ Machine.registerOffsets) : ∃ i, decode w = .instr i := by
  rcases Descriptor.eq_toWord_rd_or_wr hwf with ⟨-, hw⟩ | ⟨-, hw⟩
  · obtain ⟨i, hi⟩ := Option.isSome_iff_exists.mp (decodeRead_isSome_iff.mpr hmem)
    exact ⟨i, (congrArg decode hw).trans (decode_toWord_rd_of_some hi)⟩
  · obtain ⟨i, hi⟩ := Option.isSome_iff_exists.mp ((decodeWrite_isSome_iff (w.extractLsb' 0 32)).mpr hmem)
    exact ⟨i, (congrArg decode hw).trans (decode_toWord_wr_of_some hi)⟩

theorem decode_of_unassigned (hmem : w.extractLsb' 32 8 ∉ Machine.registerOffsets) :
    decode w = if w.getLsbD 47 then .unassignedWrite (w.extractLsb' 32 8) (w.extractLsb' 0 32)
      else .unassignedRead (w.extractLsb' 32 8) := by
  rcases Descriptor.eq_toWord_rd_or_wr hwf with ⟨hread, hw⟩ | ⟨hwrite, hw⟩
  · have unassigned : decodeRead (w.extractLsb' 32 8) = none :=
      Option.not_isSome_iff_eq_none.mp (mt decodeRead_isSome_iff.mp hmem)
    rw [hread, if_neg Bool.false_ne_true, congrArg decode hw, decode_toWord_rd, unassigned, Option.elim_none]
  · have unassigned : decodeWrite (w.extractLsb' 32 8) (w.extractLsb' 0 32) = none :=
      Option.not_isSome_iff_eq_none.mp (mt (decodeWrite_isSome_iff _).mp hmem)
    rw [if_pos hwrite, congrArg decode hw, decode_toWord_wr, unassigned, Option.elim_none]

end

/-- Settles O4: a command's row holds its CMD32 word, every other row the word of its own descriptor. -/
theorem tableWordRoundTrip : Obligations.TableWordRoundTrip := by
  intro i _
  cases command : encodeCmd32 i with
  | some c => simpa [tableBits, tableWord, command, decodeTableWord_cmd32] using decodeCmd32_eq_some_iff.mpr command
  | none => simpa [tableBits, tableWord, command] using decodeTableWord_htx48 (decode_encode_of_access command)

/-- Settles O2: RW, OFFSET and DATA stand in disjoint fields of the word (30_encoding R80), so the word is their `|||`. -/
theorem hostWordFormula : Obligations.HostWordFormula := by
  refine ⟨?_, fun v => ?_, by decide, by decide, by decide⟩
  · simp only [List.forall_mem_cons, List.not_mem_nil, false_implies, implies_true, and_true]
    and_intros <;> exact Descriptor.toNat_toWord_rd _
  · simp only [List.forall_mem_cons, List.not_mem_nil, false_implies, implies_true, and_true]
    and_intros <;> exact Descriptor.toNat_toWord_wr _ v

/-- Settles O5: the instruction's descriptor has every field of the word it was decoded from. -/
theorem decodedWordEncodesBack : Obligations.DecodedWordEncodesBack := fun _ _ => encode_of_decode_eq_instr

/-- Settles O7: a valid descriptor is looked up by its OFFSET alone, in the table of its direction. -/
theorem offsetDecidesTheAccess : Obligations.OffsetDecidesTheAccess := by
  intro w hrsvd hdata
  have hwf : (Descriptor.ofWord w).wellFormed = true := by
    rw [← Bool.not_eq_false, Descriptor.wellFormed_eq_false_iff]
    rintro (h | ⟨hread, h⟩)
    · exact h hrsvd
    · exact h (hdata hread)
  split
  · next hmem =>
    obtain ⟨i, hi⟩ := decode_of_registerOffset hwf hmem
    have hfields : encodeDescriptor i = Descriptor.ofWord w := encodeDescriptor_of_decode_eq_instr hi
    exact ⟨i, hi, by rw [hfields]; rfl, by rw [hfields]; rfl, by rw [hfields]; rfl⟩
  · next hmem => exact decode_of_unassigned hwf hmem

/-- Settles O1: each word of 95_test_vectors 2.1 and of 30_encoding R89, R90 by evaluation. -/
theorem specWordsDecode : Obligations.SpecWordsDecode := by
  unfold Obligations.SpecWordsDecode
  decide

/-- Settles O3: a command's word is the only one that selects it, and CTRL is the register it is written to. -/
theorem commandWordMap : Obligations.CommandWordMap := by
  refine ⟨decodeCmd32_eq_ite, fun i c command => ⟨?_, decodeCmd32_eq_some_iff.mpr command⟩⟩
  rw [encode_of_command command]
  exact decode_toWord_wr_of_some rfl

end Sys2Proof
end

section
/-! The step on one transaction (44_host_commands R180): a valid one runs what it decodes to, a reserved one is refused. -/

namespace Sys2Proof.Machine

theorem step_transaction {s : State} {w : HostWord} {rest : List HostEvent} (h : s.inbox = .transaction w :: rest) :
    step s = State.deliver { s with inbox := rest } w := by
  simp only [step, State.stepInbox, h, State.takeEvent]

section
variable (s : State)

theorem State.deliver_instr {w : HostWord} {i : Instr} (h : decode w = .instr i) : s.deliver w = exec i s := by
  simp only [State.deliver, h]

theorem State.deliver_reservedBits {w : HostWord} (h : decode w = .reservedBits) :
    s.deliver w = .refused .reservedHtx48Bits := by
  simp only [State.deliver, h]

theorem step_pushTransaction (w : HostWord) : step (s.pushTransaction w) = s.deliver w := step_transaction rfl

/-- A command and the write of its word to CTRL have the same meaning (30_encoding R83, R84). -/
theorem exec_wrCtrl_of_command {v : Word} {i : Instr} (h : encodeCmd32 i = some v) :
    exec (.wrCtrl v) s = exec i s := by
  cases i <;> cases h <;> rfl

end

/-- Settles O6: a descriptor is refused exactly when it is not valid (30_encoding R81), at its decoding and so at its
delivery. -/
theorem reservedDescriptorsRefused : Obligations.ReservedDescriptorsRefused := by
  intro w
  have refused : decode w = .reservedBits ↔
      w.extractLsb' 40 7 ≠ 0 ∨ (w.getLsbD 47 = false ∧ w.extractLsb' 0 32 ≠ 0) :=
    (decode_eq_reservedBits_iff w).trans (Descriptor.ofWord w).wellFormed_eq_false_iff
  refine ⟨refused, fun hreserved s rest hinbox => ?_⟩
  rw [step_transaction hinbox]
  exact State.deliver_reservedBits _ (refused.mpr hreserved)

/-- Settles O11: an HTX48 row is delivered as it stands, and a CMD32 row as the CTRL write that runs its command. -/
theorem fetchWordRunsTableRow : Obligations.FetchWordRunsTableRow := by
  intro s nbits w i h
  rw [State.withFetchWord, step_pushTransaction, tableTransaction]
  rcases decodeTableWord_cases h with ⟨h32, command⟩ | ⟨h32, access⟩
  · rw [if_pos h32, s.deliver_instr (decode_toWord_wr_of_some rfl)]
    exact exec_wrCtrl_of_command s (decodeCmd32_eq_some_iff.mp command)
  · rw [if_neg h32]
    exact s.deliver_instr access

end Sys2Proof.Machine
end

section
/-! The words of a frame (20_memory R61, 40_frame_reader R101, R106): each 4-byte block of the source is one word of FB,
read as a number and read bit by bit. -/

namespace Sys2Proof.Machine

/-! ### The byte order of one word -/

theorem le32_eq_append (b0 b1 b2 b3 : Byte) : le32 b0 b1 b2 b3 = b3 ++ b2 ++ b1 ++ b0 := by
  refine BitVec.eq_of_getLsbD_eq fun i hi => ?_
  have byte : ∀ (b : Byte) (k : Nat), 8 ≤ k → b.getLsbD k = false := fun b k => BitVec.getLsbD_of_ge b k
  simp only [le32, BitVec.getLsbD_or, BitVec.getLsbD_shiftLeft, BitVec.getLsbD_setWidth, BitVec.getLsbD_append]
  grind

theorem toNat_append_byte {w : Nat} (x : BitVec w) (b : Byte) : (x ++ b).toNat = x.toNat * 2 ^ 8 + b.toNat := by
  rw [BitVec.toNat_append, ← Nat.shiftLeft_add_eq_or_of_lt b.isLt, Nat.shiftLeft_eq]

theorem toNat_le32 (b0 b1 b2 b3 : Byte) :
    (le32 b0 b1 b2 b3).toNat = b3.toNat * 2 ^ 24 + b2.toNat * 2 ^ 16 + b1.toNat * 2 ^ 8 + b0.toNat := by
  rw [le32_eq_append, toNat_append_byte, toNat_append_byte, toNat_append_byte]
  omega

/-- Bit `p` of a word is bit `p % 8` of its byte `p / 8`. -/
theorem getLsbD_le32 (b : Nat → Byte) {p : Nat} (hp : p < 32) :
    (le32 (b 0) (b 1) (b 2) (b 3)).getLsbD p = (b (p / 8)).getLsbD (p % 8) := by
  have hbyte : p / 8 = 0 ∨ p / 8 = 1 ∨ p / 8 = 2 ∨ p / 8 = 3 := by omega
  rw [le32_eq_append]
  simp only [BitVec.getLsbD_append]
  rcases hbyte with h | h | h | h
  all_goals rw [h]; grind

/-! ### Normalization -/

theorem getD_normalizeFrame (b : List Byte) {n : Nat} (hn : 4 * n + 3 < b.length) :
    (normalizeFrame b).getD n 0 =
      le32 (b.getD (4 * n) 0) (b.getD (4 * n + 1) 0) (b.getD (4 * n + 2) 0) (b.getD (4 * n + 3) 0) := by
  induction b using normalizeFrame.induct generalizing n with
  | case1 b0 b1 b2 b3 rest ih =>
    cases n with
    | zero => rfl
    | succ n => exact ih (by simp only [List.length_cons] at hn; omega)
  | case2 b hshort =>
    match b, hshort with
    | b0 :: b1 :: b2 :: b3 :: rest, hshort => exact absurd rfl (hshort b0 b1 b2 b3 rest)
    | [], _ | [_], _ | [_, _], _ | [_, _, _], _ => simp only [List.length_cons, List.length_nil] at hn; omega

section
variable (s : State)

theorem State.read_loadFrame_of_block {b : List Byte} {n : Nat} (hn : 4 * n + 3 < b.length) :
    (s.loadFrame b).session.fb.read n =
      le32 (b.getD (4 * n) 0) (b.getD (4 * n + 1) 0) (b.getD (4 * n + 2) 0) (b.getD (4 * n + 3) 0) := by
  rw [State.loadFrame_session_fb, Memory.read_writeRange, length_normalizeFrame, if_pos (by omega),
    Nat.sub_zero, getD_normalizeFrame b hn]

theorem State.read_loadFrame_past_blocks {b : List Byte} {n : Nat} (hn : b.length ≤ 4 * n + 3) :
    (s.loadFrame b).session.fb.read n = s.session.fb.read n := by
  rw [State.loadFrame_session_fb, Memory.read_writeRange, length_normalizeFrame, if_neg (by omega)]

/-! ### Frame EC as the source holds it -/

/-- The bytes of frame EC in the source (40_frame_reader R101). -/
def State.frameBytes : List Byte := Memory.readRange s.platform.srcBytes s.frameOffset s.frameSize

/-- Word `n` of frame EC, made of its four bytes in the source (20_memory R61). -/
def State.frameWord (n : Nat) : Word :=
  let byte i := Memory.read s.platform.srcBytes (s.frameOffset + 4 * n + i)
  le32 (byte 0) (byte 1) (byte 2) (byte 3)

theorem State.getLsbD_frameWord (n : Nat) {p : Nat} (hp : p < 32) :
    (s.frameWord n).getLsbD p =
      (Memory.read s.platform.srcBytes (s.frameOffset + 4 * n + p / 8)).getLsbD (p % 8) :=
  getLsbD_le32 (fun i => Memory.read s.platform.srcBytes (s.frameOffset + 4 * n + i)) hp

/-- FB once frame EC has been loaded into it. -/
def State.loadedFb : Memory Word := (s.loadFrame s.frameBytes).session.fb

theorem State.length_frameBytes : s.frameBytes.length = 4 * s.wpe := Memory.length_readRange _ _ _

theorem State.read_loadedFb {n : Nat} (hn : n < s.wpe) : s.loadedFb.read n = s.frameWord n := by
  have hlen := s.length_frameBytes
  have byte : ∀ i < 4, s.frameBytes.getD (4 * n + i) 0 =
      Memory.read s.platform.srcBytes (s.frameOffset + 4 * n + i) := fun i hi => by
    rw [State.frameBytes, Memory.getD_readRange _ _ _ _ (by rw [State.frameSize]; omega), Nat.add_assoc]
  rw [State.loadedFb, s.read_loadFrame_of_block (by omega), byte 1 (by omega), byte 2 (by omega), byte 3 (by omega)]
  exact congrArg (le32 · _ _ _) (byte 0 (by omega))

theorem State.read_loadedFb_past {n : Nat} (hn : s.wpe ≤ n) : s.loadedFb.read n = s.session.fb.read n :=
  s.read_loadFrame_past_blocks (by rw [s.length_frameBytes]; omega)

end

/-- Settles O37: inside the frame's blocks FB holds the word of the block, past them what it held. -/
theorem normalizationByteOrder : Obligations.NormalizationByteOrder := by
  refine fun s b n => ⟨fun hn => ?_, fun hn => s.read_loadFrame_past_blocks hn⟩
  rw [s.read_loadFrame_of_block hn, toNat_le32]

end Sys2Proof.Machine
end

section
/-! The samples of a bit-line, bit by bit (42_bitplane_demux R142): the loop over `j` sets bit `15 - j` of sample `i` to
the bit-line's bit of word `off(i, j)`, so the samples depend on those bits alone. -/

namespace Sys2Proof.Machine

theorem wordOffset_eq (i j : Nat) : wordOffset i j = 1 + 16 * i + j := rfl

theorem wordOffset_bounds {i j : Nat} (hi : i < Config.nSamples) (hj : j < Config.sampleBits) :
    1 ≤ wordOffset i j ∧ wordOffset i j ≤ 30784 := by
  have hi1924 : i < 1924 := hi
  have hj16 : j < 16 := hj
  rw [wordOffset_eq]
  omega

theorem getLsbD_foldl_or {ι : Type} {w : Nat} (f : ι → BitVec w) (l : List ι) (x : BitVec w) (n : Nat) :
    (l.foldl (fun s j => s ||| f j) x).getLsbD n = (x.getLsbD n || l.any fun j => (f j).getLsbD n) := by
  induction l generalizing x with
  | nil => simp
  | cons j l ih => rw [List.foldl_cons, ih, BitVec.getLsbD_or, List.any_cons, Bool.or_assoc]

/-- What one turn of the loop sets: bit `15 - j`, to bit `p` of the word. -/
theorem getLsbD_demuxTurn (x : Word) (p j n : Nat) :
    (((x >>> p) &&& 1).setWidth 16 <<< (15 - j) : Sample).getLsbD n =
      (decide (n < 16 ∧ n = 15 - j) && x.getLsbD p) := by
  have hone : ∀ i, (1 : Word).getLsbD i = decide (i = 0) := fun i => by simp
  simp only [BitVec.getLsbD_shiftLeft, BitVec.getLsbD_setWidth, BitVec.getLsbD_and, BitVec.getLsbD_ushiftRight, hone]
  grind

theorem getLsbD_demuxSample (fb : Memory Word) (p i : Nat) {j : Nat} (hj : j < Config.sampleBits) :
    (demuxSample fb p i).getLsbD (15 - j) = (fb.read (wordOffset i j)).getLsbD p := by
  have hj16 : j < 16 := hj
  have hzero : (0 : Sample).getLsbD (15 - j) = false := BitVec.getLsbD_zero
  rw [demuxSample, getLsbD_foldl_or, hzero, Bool.false_or, Bool.eq_iff_iff, List.any_eq_true]
  simp only [getLsbD_demuxTurn, Bool.and_eq_true, decide_eq_true_eq, List.mem_range]
  constructor
  · rintro ⟨j', hj', ⟨-, hturn⟩, hbit⟩
    have hj16' : j' < 16 := hj'
    rwa [show j = j' by omega]
  · exact fun hbit => ⟨j, hj, ⟨by omega, rfl⟩, hbit⟩

/-- A sample is the one whose bits are the bit-line's. -/
theorem eq_demuxSample {x : Sample} {fb : Memory Word} {p i : Nat}
    (h : ∀ j < Config.sampleBits, x.getLsbD (15 - j) = (fb.read (wordOffset i j)).getLsbD p) :
    x = demuxSample fb p i := by
  refine BitVec.eq_of_getLsbD_eq fun n hn => ?_
  have hj : 15 - n < Config.sampleBits := Nat.lt_succ_of_le (Nat.sub_le 15 n)
  rw [show n = 15 - (15 - n) by omega, h _ hj, getLsbD_demuxSample fb p i hj]

theorem getElem_demuxPlane (fb : Memory Word) (p : Nat) {i : Nat} (hi : i < (demuxPlane fb p).length) :
    (demuxPlane fb p)[i] = demuxSample fb p i := by
  simp [demuxPlane]

/-- A frame's samples are those of every frame with the same bits at the mask's positions of the words `off(i, j)`
(42_bitplane_demux R145). -/
theorem demux_congr {fb fb' : Memory Word} {m : Word}
    (h : ∀ i < Config.nSamples, ∀ j < Config.sampleBits, ∀ p ∈ setBits m,
      (fb.read (wordOffset i j)).getLsbD p = (fb'.read (wordOffset i j)).getLsbD p) :
    demux fb m = demux fb' m := by
  refine List.map_congr_left fun p hp => List.map_congr_left fun i hi => eq_demuxSample fun j hj => ?_
  rw [getLsbD_demuxSample fb p i hj, h i (List.mem_range.mp hi) j hj p hp]

end Sys2Proof.Machine
end

section
/-! Which step reaches the source (20_memory R64, 40_frame_reader R103, R104). Of the transactions only NEXT_EVENT's
word runs NEXT_EVENT, and of its cases only the one of a started session issues requests: an open that fails, or frame
EC's. -/

namespace Sys2Proof.Machine

/-! ### What a transaction does, with the words that run NEXT_EVENT and SESSION_RESET -/

/-- The states a transaction `w` can lead to. -/
inductive State.Delivered (s : State) (w : HostWord) : State → Prop
  | answer (v : Word) : s.Delivered w (s.answer v)
  | kept : s.Delivered w s
  | setCmdErr : s.Delivered w s.setCmdErr
  | writeCfg (f : CfgRegs → CfgRegs) : s.Delivered w (s.writeCfg f)
  | start : s.Delivered w s.start
  | nextEvent : w = nextWord → s.Delivered w s.nextEvent
  | newSession : w = sresetWord → s.Delivered w s.newSession

section
variable (s : State)

theorem State.hostWrite_delivered {w : HostWord} {f : State → State} (h : s.Delivered w (f s)) :
    s.Delivered w (s.hostWrite f) := by
  unfold State.hostWrite
  split
  · exact .setCmdErr
  · exact h

theorem State.runCommand_delivered (v : Word) : s.Delivered (encode (.wrCtrl v)) (s.runCommand v) := by
  unfold State.runCommand
  split
  · exact .kept
  · exact .start
  · next h => cases decodeCmd32_eq_some_iff.mp h; exact .nextEvent rfl
  · next h => cases decodeCmd32_eq_some_iff.mp h; exact .newSession rfl
  · exact .setCmdErr

theorem exec_delivered (i : Instr) : ∃ t, exec i s = .next t ∧ s.Delivered (encode i) t := by
  cases i
  case start => exact ⟨_, rfl, s.hostWrite_delivered .start⟩
  case nextEvent => exact ⟨_, rfl, s.hostWrite_delivered (.nextEvent rfl)⟩
  case sessionReset => exact ⟨_, rfl, s.hostWrite_delivered (.newSession rfl)⟩
  case wrCtrl v => exact ⟨_, rfl, s.hostWrite_delivered (s.runCommand_delivered v)⟩
  case wrBoardCount | wrWordsPerEvent | wrChannelsPerChip | wrHexaboardCount | wrChipsPerHexaboard | wrOutputKey =>
    exact ⟨_, rfl, s.hostWrite_delivered (.writeCfg _)⟩
  case nop | wrStatus | wrErrInfo | wrEventCountLo | wrEventCountHi | wrActiveMask | wrActivePlanes | wrCapWpeMax
      | wrCapCpcMax =>
    exact ⟨_, rfl, s.hostWrite_delivered .kept⟩
  all_goals exact ⟨_, rfl, .answer _⟩

theorem State.deliver_delivered {w : HostWord} {t : State} (h : s.deliver w = .next t) : s.Delivered w t := by
  unfold State.deliver at h
  split at h
  · next i hi =>
    obtain ⟨t', hexec, heffect⟩ := exec_delivered s i
    rw [hexec] at h
    cases h
    rwa [encode_of_decode_eq_instr hi] at heffect
  · cases h; exact .answer 0
  · cases h; exact s.hostWrite_delivered .kept
  · cases h

theorem State.deliver_nextWord : s.deliver nextWord = exec .nextEvent s :=
  (s.deliver_instr (i := .wrCtrl 2) (by decide)).trans (exec_wrCtrl_of_command s rfl)

/-! ### The requests of NEXT_EVENT -/

theorem State.produceEvent_of_openFails (hclosed : s.session.srcOpen = false) (hfails : s.openAnswer = false) :
    s.produceEvent = ((s.setPhase .opening).afterOpen).raise (.ioError 1) := by
  rcases s.produceEvent_cases with ⟨-, -, h⟩ | ⟨hopen, -⟩
  · exact h
  · simp [hclosed, hfails] at hopen

theorem State.processFrame_requests (b : List Byte) :
    (s.processFrame b).srcLog = s.srcLog ∧ (s.processFrame b).session.srcOpen = s.session.srcOpen := by
  rcases s.processFrame_cases b with ⟨k, -, h⟩ | ⟨-, h⟩
  all_goals simp [h, State.prepared]

theorem State.produceEvent_requests (hopen : s.canOpen = true) :
    s.produceEvent.srcLog = s.srcLog ++ s.eventRequests ∧ s.produceEvent.session.srcOpen = true := by
  have hlog : s.frameRequested.srcLog = s.srcLog ++ s.eventRequests := by rw [State.frameRequested_eq]
  have hsrc : s.frameRequested.session.srcOpen = true := by rw [State.frameRequested_eq]
  rw [s.produceEvent_of_canOpen hopen]
  split
  · split
    · exact ⟨hlog, hsrc⟩
    · obtain ⟨hlog', hsrc'⟩ := s.frameRequested.processFrame_requests
        (Memory.readRange s.platform.srcBytes s.frameOffset s.frameSize)
      exact ⟨hlog'.trans hlog, hsrc'.trans hsrc⟩
  · exact ⟨hlog, hsrc⟩

theorem State.produceEvent_requests_cases :
    (s.session.srcOpen = false → s.openAnswer = false →
      s.produceEvent.srcLog = s.srcLog ++ [.srcOpen] ∧ s.produceEvent.session.phase = .exhausted ∧
        s.produceEvent.session.srcOpen = false) ∧
    (s.canOpen = true →
      s.produceEvent.srcLog = s.srcLog ++ s.eventRequests ∧ s.produceEvent.session.srcOpen = true) := by
  refine ⟨fun hclosed hfails => ?_, s.produceEvent_requests⟩
  rw [s.produceEvent_of_openFails hclosed hfails]
  exact ⟨rfl, rfl, hclosed⟩

/-- In a coherent state the session in which NEXT_EVENT is no error and no no-op is a started one. -/
theorem State.SessionInv.eventReady {s : State} (hs : s.SessionInv) (hlive : s.session.phase.terminal = false)
    (hw : s.cfgWritable = false) : s.eventReady = true := by
  have hok := (hs.started hlive hw).1
  have hopening := hs.notOpening
  unfold State.eventReady
  cases hphase : s.session.phase with
  | uninit | reading => simp [hok]
  | opening => exact absurd hphase hopening
  | exhausted | aborted => simp [hphase, Phase.terminal] at hlive

theorem State.SessionInv.nextEvent_srcLog {s : State} (hs : s.SessionInv) (hready : s.eventReady = false) :
    s.nextEvent.srcLog = s.srcLog := by
  rcases s.nextEvent_cases with ⟨-, h⟩ | ⟨-, -, h⟩ | ⟨hlive, hw, -⟩
  · rw [h]; rfl
  · rw [h]; rfl
  · rw [hs.eventReady hlive hw] at hready; cases hready

theorem State.SessionInv.deliver_srcLog {s t : State} {w : HostWord} (hs : s.SessionInv)
    (h : s.deliver w = .next t) (hnot : ¬ (w = nextWord ∧ s.eventReady = true)) : t.srcLog = s.srcLog := by
  cases s.deliver_delivered h with
  | answer | kept | setCmdErr | newSession => rfl
  | writeCfg f => unfold State.writeCfg; split <;> rfl
  | start =>
    rcases s.start_cases with ⟨-, hstart⟩ | ⟨x, -, -, hstart⟩ | ⟨m, -, -, hstart⟩
    all_goals rw [hstart]; rfl
  | nextEvent hw => exact hs.nextEvent_srcLog (Bool.eq_false_of_not_eq_true fun hready => hnot ⟨hw, hready⟩)

end

/-- Settles O31: the open that fails is the only request, and raises IoError 1. -/
theorem nextEventOpenFails : Obligations.NextEventOpenFails := by
  intro s hbusy hready hclosed hfails
  rw [exec_nextEvent_of_eventReady s hbusy hready,
    State.produceEvent_of_openFails (s.setEventValid false) hclosed hfails]
  rfl

/-- Settles O56: of the events only NEXT_EVENT's word reaches the source, and only from a started session; there the
open fails or frame EC is requested. -/
theorem sourceRequestsOnlyByNextEvent : Obligations.SourceRequestsOnlyByNextEvent := by
  intro s t hs hstep
  refine ⟨fun hnot => ?_, fun hhead hready => ?_⟩
  · rcases step_cases s hstep with ⟨-, rfl⟩ | ⟨e, rest, hinbox, ⟨w, rfl, hdeliver⟩ | ⟨-, rfl⟩ | ⟨p, -, -, rfl⟩⟩
    · rfl
    · refine (hs.withInbox rest).deliver_srcLog hdeliver fun ⟨hw, hready⟩ => hnot ⟨?_, hready⟩
      rw [hinbox, hw]; rfl
    · rfl
    · rfl
  · obtain ⟨rest, hinbox⟩ := List.head?_eq_some_iff.mp hhead
    rw [step_transaction hinbox, State.deliver_nextWord,
      exec_nextEvent_of_eventReady _ (hs.withInbox rest).notBusy hready] at hstep
    cases hstep
    exact State.produceEvent_requests_cases (State.setEventValid { s with inbox := rest } false)

end Sys2Proof.Machine
end

section
/-! The records of frame EC (40_frame_reader R101, 42_bitplane_demux R142, 43_channel_mapper R161–R167). The idea of the
part: once the frame has passed through FB, SM and G, the record read back for plane `k` is the frame's samples at
`pos(m, k)` and the map's ids, and those are fixed bit by bit by the source's bytes. So any list of records that match
the bytes is the list the sink gets. -/

namespace Sys2Proof.Machine

/-- A row that has been written to its plane is read back whole. -/
theorem readRange_writePlanes {α : Type} [OfNat α 0] [DecidableEq α] (ms : List (Memory α)) {rows : List (List α)}
    {n k : Nat} {row : List α} (hle : rows.length ≤ ms.length) (hrow : rows[k]? = some row) (hlen : row.length = n) :
    (planeAt (writePlanes ms rows) k).readRange 0 n = row := by
  obtain ⟨hk, hget⟩ := List.getElem?_eq_some_iff.mp hrow
  rw [planeAt_writePlanes ms rows k (by omega), dif_pos hk, hget, ← hlen, Memory.readRange_writeRange]

section
variable (s : State)

/-- An event whose records are all valid is emitted with them. -/
theorem State.assemble_of_valid {recs : List ChipRecord} (hlen : recs.length = s.planes)
    (hrecs : ∀ (k : Nat) (h : k < recs.length), recs[k] = s.recordAt k)
    (hvalid : ∀ r ∈ recs, s.recordValid r = true) :
    s.assemble = s.emitEvent ∧ s.collection = ⟨s.cfg.outputKey, s.session.ec, recs⟩ := by
  have hnone : s.firstInvalid = none := by
    refine List.find?_eq_none.mpr fun k hk => ?_
    have hk' : k < recs.length := by rw [hlen]; exact List.mem_range.mp hk
    simp [← hrecs k hk', hvalid _ (List.getElem_mem hk')]
  have hrecords : (List.range s.planes).map s.recordAt = recs :=
    List.ext_getElem (by simp [hlen]) fun k h h' => by simp [hrecs k h']
  exact ⟨by rw [State.assemble, hnone], by rw [State.collection, hrecords]⟩

/-- The state before validation, once frame EC has been requested and has passed through FB, SM and G. -/
def State.frameStored : State := s.frameRequested.prepared s.frameBytes

theorem State.frameStored_eq :
    s.frameStored =
      { s with
        openDraws := if s.session.srcOpen then s.openDraws else s.openDraws.tail
        ioErrDraws := if s.frameInSource then s.ioErrDraws.tail else s.ioErrDraws
        srcLog := s.srcLog ++ s.eventRequests
        session := { s.session with
          phase := if s.session.srcOpen then s.session.phase else .opening
          srcOpen := true
          fb := s.loadedFb
          sm := writePlanes s.session.sm (demux s.loadedFb s.session.activeMask)
          geom := writePlanes s.session.geom (lookups s.platform.map s.planes s.cpc) } } := by
  rw [State.frameStored, State.frameRequested_eq]
  rfl

/-- The three answers to the request for an event, a frame that arrives being stored and assembled. -/
theorem State.produceEvent_answers (hopen : s.canOpen = true) :
    s.produceEvent =
      if s.frameInSource then
        if s.readFails then s.frameRequested.raise (.ioError 2) else s.frameStored.assemble
      else s.frameRequested.raise .streamEnd :=
  s.produceEvent_of_canOpen hopen

theorem State.produceEvent_of_frame (hopen : s.canOpen = true) (hin : s.frameInSource = true)
    (hreads : s.readFails = false) : s.produceEvent = s.frameStored.assemble := by
  simp [s.produceEvent_answers hopen, hin, hreads]

section
variable {s} (hsm : s.session.sm.length = Config.lines) (hgeom : s.session.geom.length = Config.lines)
include hsm hgeom

theorem State.recordAt_frameStored {k : Nat} (hk : k < s.planes) :
    s.frameStored.recordAt k =
      ⟨demuxPlane s.loadedFb (pos s.session.activeMask k),
        (List.range s.cpc).map (geomIdOf s.platform.map k)⟩ := by
  have hplanes := s.planes_le
  have hsamples : (demux s.loadedFb s.session.activeMask)[k]? =
      some (demuxPlane s.loadedFb (pos s.session.activeMask k)) := by
    rw [demux, List.getElem?_map, getElem?_setBits hk, Option.map_some]
  have hids : (lookups s.platform.map s.planes s.cpc)[k]? =
      some ((List.range s.cpc).map (geomIdOf s.platform.map k)) := by
    rw [lookups, List.getElem?_map, List.getElem?_range hk, Option.map_some]
  rw [s.frameStored_eq]
  exact congrArg₂ ChipRecord.mk
    (readRange_writePlanes _ (by rw [length_demux, hsm]; exact hplanes) hsamples (length_demuxPlane _ _))
    (readRange_writePlanes (n := s.cpc) _ (by rw [length_lookups, hgeom]; exact hplanes) hids (by simp))

/-- The source's bytes fix the record of every active plane of a frame that reaches WORDS_NEEDED. -/
theorem State.IsFrameRecord.eq_recordAt {k : Nat} {r : ChipRecord} (h : s.IsFrameRecord k r)
    (hwpe : Config.wordsNeeded ≤ s.wpe) (hk : k < s.planes) : r = s.frameStored.recordAt k := by
  obtain ⟨hlen, hbits, hidsLen, hids⟩ := h
  have hp : pos s.session.activeMask k < 32 := pos_lt_lines hk
  rw [State.recordAt_frameStored hsm hgeom hk]
  refine ChipRecord.mk.injEq .. |>.mpr ⟨?_, ?_⟩
  · refine List.ext_getElem (by rw [hlen, length_demuxPlane]) fun i hi hi' => ?_
    have hin : i < Config.nSamples := Nat.lt_of_lt_of_eq hi hlen
    rw [getElem_demuxPlane]
    refine eq_demuxSample fun j hj => ?_
    have hword : wordOffset i j < s.wpe := Nat.lt_of_lt_of_le (Nat.lt_succ_of_le (wordOffset_bounds hin hj).2) hwpe
    rw [s.read_loadedFb hword, s.getLsbD_frameWord _ hp, wordOffset_eq, ← List.getD_eq_getElem r.samples 0 hi]
    exact hbits i hin j hj
  · refine List.ext_getElem (by rw [hidsLen]; simp [State.cpc]) fun c hc hc' => ?_
    rw [List.getElem_map, List.getElem_range, ← List.getD_eq_getElem r.geom 0 hc]
    exact hids c (Nat.lt_of_lt_of_eq hc hidsLen)

/-- A frame whose records are all valid goes to the sink with them. -/
theorem State.assemble_frameStored {recs : List ChipRecord} (hwpe : Config.wordsNeeded ≤ s.wpe)
    (hlen : recs.length = s.planes) (hrecs : ∀ (k : Nat) (h : k < recs.length), s.IsFrameRecord k recs[k])
    (hvalid : ∀ r ∈ recs, s.recordValid r = true) :
    s.frameStored.assemble = s.frameStored.emitEvent ∧
      s.frameStored.collection = ⟨s.cfg.outputKey, s.session.ec, recs⟩ := by
  have hrecords (k : Nat) (h : k < recs.length) : recs[k] = s.frameStored.recordAt k :=
    (hrecs k h).eq_recordAt hsm hgeom hwpe (hlen ▸ h)
  rw [s.frameStored_eq] at hrecords ⊢
  exact State.assemble_of_valid _ hlen hrecords hvalid

end

theorem State.SessionInv.cfgOk_of_eventReady {s : State} (hs : s.SessionInv) (hready : s.eventReady = true) :
    s.session.cfgOk = true := by
  by_contra hnot
  obtain ⟨-, hphase, -, -⟩ := hs.unconfigured (Bool.eq_false_of_not_eq_true hnot)
  rcases hphase with hp | hp <;> simp [State.eventReady, hp, hnot] at hready

theorem State.frameInSource_iff :
    s.frameInSource = true ↔
      s.frameOffset + s.frameSize ≤ s.platform.srcLen ∧ s.frameOffset + s.frameSize ≤ 2 ^ Config.srcAddrW := by
  rw [← s.pastEnd_eq_false, s.pastEnd_frame, Bool.not_eq_false']

end

/-- Settles O34: NEXT_EVENT of a readable frame stores it and assembles its records, which are those of the source's
bytes. -/
theorem nextEventEmitsTheFrame : Obligations.NextEventEmitsTheFrame := by
  intro s recs hs hdata hready hopen hin hreads hlen hrecs hvalid
  have hok := hs.cfgOk_of_eventReady hready
  obtain ⟨-, hwpe, -⟩ := hs.configured hok
  have hec := hs.ec_succ hok (s.frameInSource_iff.mp hin).2
  obtain ⟨hemit, hcollection⟩ := State.assemble_frameStored (s := s.setEventValid false) hdata.sm.1 hdata.geom.1 hwpe
    hlen hrecs hvalid
  refine ⟨(s.setEventValid false).frameStored.emitEvent, ?_, ?_⟩
  · rw [exec_nextEvent_of_eventReady s hs.notBusy hready,
      State.produceEvent_of_frame (s.setEventValid false) hopen hin hreads, hemit]
  · rw [State.emitEvent_sink, hcollection, State.frameStored_eq]
    exact ⟨rfl, hec, rfl, rfl, rfl, rfl, rfl, rfl, rfl, rfl, rfl, rfl, rfl, rfl, rfl, rfl, rfl, rfl, if_pos hin⟩

end Sys2Proof.Machine
end

section
/-! The header word, the margin words and all that lies outside the words 1..30784 of frame EC reach FB at most
(40_frame_reader R107, 42_bitplane_demux R145): NEXT_EVENT from two sources that agree on those words ends in states
that differ in the source's bytes and in FB alone, neither of which is observed (70_reset_and_hazards R247). -/

namespace Sys2Proof.Machine

/-- The state with another source content and another FB. -/
def State.withFrameData (s : State) (bytes : List Host.Cell) (fb : Memory Word) : State :=
  { s with platform := { s.platform with srcBytes := bytes }, session := { s.session with fb := fb } }

/-- The state with another source content. -/
def State.withSource (s : State) (bytes : List Host.Cell) : State := s.withFrameData bytes s.session.fb

section
variable (s : State)

theorem State.observe_withFrameData (bytes : List Host.Cell) (fb : Memory Word) :
    (s.withFrameData bytes fb).observe = s.observe := rfl

theorem State.assemble_withFrameData (bytes : List Host.Cell) (fb : Memory Word) :
    (s.withFrameData bytes fb).assemble = s.assemble.withFrameData bytes fb := by
  have hcheck : (s.withFrameData bytes fb).firstInvalid = s.firstInvalid := rfl
  unfold State.assemble
  rw [hcheck]
  cases s.firstInvalid <;> rfl

theorem State.frameRequested_withSource (bytes : List Host.Cell) :
    (s.withSource bytes).frameRequested = s.frameRequested.withSource bytes := by
  rw [State.frameRequested_eq, s.frameRequested_eq]
  rfl

/-- The source agrees with `bytes` on the words 1..30784 of frame EC. -/
def State.AgreesOnFrame (bytes : List Host.Cell) : Prop :=
  ∀ a, s.frameOffset + 4 ≤ a → a < s.frameOffset + 4 * 30785 →
    Memory.read bytes a = Memory.read s.platform.srcBytes a

section
variable {s} {bytes : List Host.Cell} (hagree : s.AgreesOnFrame bytes)
include hagree

theorem State.AgreesOnFrame.frameWord_eq {n : Nat} (h1 : 1 ≤ n) (h2 : n ≤ 30784) :
    (s.withSource bytes).frameWord n = s.frameWord n := by
  refine BitVec.eq_of_getLsbD_eq fun p hp => ?_
  rw [State.getLsbD_frameWord _ n hp, s.getLsbD_frameWord n hp]
  exact congrArg (BitVec.getLsbD · (p % 8)) (hagree (s.frameOffset + 4 * n + p / 8) (by omega) (by omega))

theorem State.AgreesOnFrame.read_loadedFb_eq {n : Nat} (h1 : 1 ≤ n) (h2 : n ≤ 30784) :
    (s.withSource bytes).loadedFb.read n = s.loadedFb.read n := by
  rcases Nat.lt_or_ge n s.wpe with hn | hn
  · rw [State.read_loadedFb (s.withSource bytes) hn, s.read_loadedFb hn, hagree.frameWord_eq h1 h2]
  · exact (State.read_loadedFb_past (s.withSource bytes) hn).trans (s.read_loadedFb_past hn).symm

theorem State.AgreesOnFrame.frameStored_eq :
    (s.withSource bytes).frameStored = s.frameStored.withFrameData bytes (s.withSource bytes).loadedFb := by
  have hdemux : demux (s.withSource bytes).loadedFb s.session.activeMask = demux s.loadedFb s.session.activeMask :=
    demux_congr fun i hi j hj p _ => by
      obtain ⟨h1, h2⟩ := wordOffset_bounds hi hj
      rw [hagree.read_loadedFb_eq h1 h2]
  rw [State.frameStored_eq, s.frameStored_eq, State.withFrameData, ← hdemux]
  rfl

theorem State.AgreesOnFrame.produceEvent_eq :
    ∃ fb, (s.withSource bytes).produceEvent = s.produceEvent.withFrameData bytes fb := by
  cases hopen : s.canOpen with
  | false =>
    obtain ⟨hclosed, hfails⟩ : s.session.srcOpen = false ∧ s.openAnswer = false := by
      simpa [State.canOpen] using hopen
    rw [State.produceEvent_of_openFails (s.withSource bytes) hclosed hfails, s.produceEvent_of_openFails hclosed hfails]
    exact ⟨s.session.fb, rfl⟩
  | true =>
    have hin : (s.withSource bytes).frameInSource = s.frameInSource := rfl
    have hfails : (s.withSource bytes).readFails = s.readFails := rfl
    rw [State.produceEvent_answers (s.withSource bytes) hopen, s.produceEvent_answers hopen, hin, hfails,
      s.frameRequested_withSource, hagree.frameStored_eq, State.assemble_withFrameData]
    split
    · split
      · exact ⟨_, rfl⟩
      · exact ⟨_, rfl⟩
    · exact ⟨_, rfl⟩

theorem State.AgreesOnFrame.nextEvent_eq :
    ∃ fb, (s.withSource bytes).nextEvent = s.nextEvent.withFrameData bytes fb := by
  have hphase : (s.withSource bytes).session.phase = s.session.phase := rfl
  have hwritable : (s.withSource bytes).cfgWritable = s.cfgWritable := rfl
  rw [State.nextEvent_eq, s.nextEvent_eq, hphase, hwritable]
  split
  · exact ⟨s.session.fb, rfl⟩
  · split
    · exact ⟨s.session.fb, rfl⟩
    · exact State.AgreesOnFrame.produceEvent_eq (s := s.setEventValid false) hagree

end

end

/-- Settles O60: both runs of NEXT_EVENT end in the same state but for the source's bytes and FB. -/
theorem headerAndMarginIgnored : Obligations.HeaderAndMarginIgnored := by
  intro s bytes hagree
  refine ⟨_, _, rfl, rfl, ?_⟩
  show ((s.withSource bytes).hostWrite State.nextEvent).observe = (s.hostWrite State.nextEvent).observe
  cases hbusy : s.busy with
  | true => rw [s.hostWrite_of_busy _ hbusy, State.hostWrite_of_busy (s.withSource bytes) _ hbusy]; rfl
  | false =>
    obtain ⟨fb, heq⟩ := State.AgreesOnFrame.nextEvent_eq hagree
    rw [s.hostWrite_of_not_busy _ hbusy, State.hostWrite_of_not_busy (s.withSource bytes) _ hbusy, heq,
      State.observe_withFrameData]

end Sys2Proof.Machine
end

section
/-! START on a configuration not yet validated (44_host_commands R186): one equation of the check per failure of
41_mask_and_config R128, each under the checks before it passed, and the next state for either answer of the check. -/

namespace Sys2Proof.Machine

/-! ### The mask table -/

theorem maskOf_eq_none_iff (b : Word) : maskOf b = none ↔ b.toNat < 1 ∨ 8 < b.toNat := by
  rw [← Option.not_isSome_iff_eq_none, maskOf_isSome]
  omega

theorem exists_maskOf {b : Word} (h1 : 1 ≤ b.toNat) (h8 : b.toNat ≤ 8) : ∃ m, maskOf b = some m :=
  Option.isSome_iff_exists.mp ((maskOf_isSome b).mpr ⟨h1, h8⟩)

/-- The set bits in rank order are the positions `pos` gives (00_scope R10). -/
theorem map_pos_range (m : Word) : (List.range (popcount m)).map (pos m) = setBits m := by
  refine List.ext_getElem? fun k => ?_
  rcases Nat.lt_or_ge k (popcount m) with hk | hk
  · rw [getElem?_setBits hk, List.getElem?_map, List.getElem?_range hk, Option.map_some]
  · rw [List.getElem?_eq_none (by simpa using hk), List.getElem?_eq_none hk]

/-- The columns of a row of R120's table, from its mask and the positions of that mask's set bits. -/
theorem maskRow_of_setBits {b m : Word} {planes : Nat} {bits : List Nat} (hmask : maskOf b = some m)
    (hbits : setBits m = bits) (hplanes : bits.length = planes) :
    maskOf b = some m ∧ popcount m = planes ∧ (List.range planes).map (pos m) = bits := by
  subst hbits hplanes
  exact ⟨hmask, rfl, map_pos_range m⟩

/-- Settles O27: row by row, the mask is looked up and its set bits are listed. -/
theorem maskTable : Obligations.MaskTable := by
  intro e he
  simp only [List.mem_cons, List.not_mem_nil, or_false] at he
  rcases he with rfl | rfl | rfl | rfl | rfl | rfl | rfl | rfl <;>
    exact maskRow_of_setBits rfl (by decide) rfl

section
variable {s : State}

/-! ### The check -/

theorem State.configCheck_of_illegalBoardCount (hmask : maskOf s.cfg.boardCount = none) :
    s.configCheck = .error (.configError 1) := by
  simp [State.configCheck, hmask]

section
variable {m : Word} (hmask : maskOf s.cfg.boardCount = some m)
include hmask

theorem State.configCheck_of_frameTooShort (hshort : s.wpe < Config.wordsNeeded) :
    s.configCheck = .error (.configError 2) := by
  simp [State.configCheck, hmask, hshort]

variable (hmin : Config.wordsNeeded ≤ s.wpe)
include hmin

theorem State.configCheck_of_frameTooLong (hlong : s.params.wpeMax.toNat < s.wpe) :
    s.configCheck = .error (.configError 3) := by
  simp [State.configCheck, hmask, hmin.not_gt, hlong]

variable (hmax : s.wpe ≤ s.params.wpeMax.toNat)
include hmax

theorem State.configCheck_of_illegalChannelCount (hcpc : s.cpc = 0 ∨ s.params.cpcMax.toNat < s.cpc) :
    s.configCheck = .error (.configError 4) := by
  simp [State.configCheck, hmask, hmin.not_gt, hmax.not_gt, hcpc]

theorem State.configCheck_of_mapNotReady (hcpc : 1 ≤ s.cpc) (hcpcMax : s.cpc ≤ s.params.cpcMax.toNat)
    (hmap : s.platform.mapReady = false) : s.configCheck = .error .mapLoadError := by
  have hlegal : ¬ (s.cpc = 0 ∨ s.params.cpcMax.toNat < s.cpc) := by omega
  simp [State.configCheck, hmask, hmin.not_gt, hmax.not_gt, hlegal, hmap]

end

/-! ### START -/

theorem exec_start_of_not_busy (hbusy : s.busy = false) : exec .start s = .next s.start :=
  congrArg Host.Outcome.next (s.hostWrite_of_not_busy State.start hbusy)

section
variable (hbusy : s.busy = false) (hphase : s.session.phase = .uninit) (hnew : s.session.cfgOk = false)
include hbusy hphase hnew

theorem exec_start_of_configCheck_error {x : Exc} (hcheck : s.configCheck = .error x) :
    exec .start s = .next (s.raise x) := by
  rw [exec_start_of_not_busy hbusy, State.start, if_pos (s.cfgWritable_iff.mpr ⟨hphase, hnew⟩), hcheck]

theorem exec_start_of_configCheck_ok {m : Word} (hcheck : s.configCheck = .ok m) :
    exec .start s = .next (s.latchConfig m) := by
  rw [exec_start_of_not_busy hbusy, State.start, if_pos (s.cfgWritable_iff.mpr ⟨hphase, hnew⟩), hcheck]

end

theorem State.latchConfig_cfgWritable (m : Word) : (s.latchConfig m).cfgWritable = false := by
  simp [State.cfgWritable]

end

/-- Settles O26: the table ends at 8, and the board count is the first check. -/
theorem illegalBoardCountHasNoMask : Obligations.IllegalBoardCountHasNoMask := by
  refine fun b => ⟨maskOf_eq_none_iff b, fun hillegal s hbusy hphase hnew hb => ?_⟩
  subst hb
  exact exec_start_of_configCheck_error hbusy hphase hnew
    (State.configCheck_of_illegalBoardCount ((maskOf_eq_none_iff _).mpr hillegal))

/-- Settles O23: the check passes with the board count's row of the table, which START latches. -/
theorem startLatchesMask : Obligations.StartLatchesMask := by
  intro s hbusy hphase hnew hb1 hb8 hmin hmax hcpc hcpcMax hmap
  obtain ⟨m, hmask⟩ := exists_maskOf hb1 hb8
  have hcheck : s.configCheck = .ok m := s.configCheck_eq_ok hmask hmin hmax hcpc hcpcMax hmap
  exact ⟨m, s.latchConfig m, maskOf_mem hmask, exec_start_of_configCheck_ok hbusy hphase hnew hcheck, rfl,
    popcount_maskOf hmask, State.latchConfig_cfgWritable m⟩

/-- Settles O24: each clause is one failure of the check, whose exception START raises. -/
theorem startRaisesFirstFailure : Obligations.StartRaisesFirstFailure := by
  intro s hbusy hphase hnew
  have raises {x : Exc} (hcheck : s.configCheck = .error x) : exec .start s = .next (s.raise x) :=
    exec_start_of_configCheck_error hbusy hphase hnew hcheck
  refine ⟨fun hillegal => ?_, fun hb1 hb8 hshort => ?_, fun hb1 hb8 hmin hlong => ?_,
    fun hb1 hb8 hmin hmax hcpc => ?_, fun hb1 hb8 hmin hmax hcpc hcpcMax hmap => ?_,
    fun hb1 hb8 hmin hmax hcpc hcpcMax hmap => ?_⟩
  · exact raises (State.configCheck_of_illegalBoardCount ((maskOf_eq_none_iff _).mpr hillegal))
  all_goals obtain ⟨m, hmask⟩ := exists_maskOf hb1 hb8
  · exact raises (State.configCheck_of_frameTooShort hmask hshort)
  · exact raises (State.configCheck_of_frameTooLong hmask hmin hlong)
  · exact raises (State.configCheck_of_illegalChannelCount hmask hmin hmax hcpc)
  · exact raises (State.configCheck_of_mapNotReady hmask hmin hmax hcpc hcpcMax hmap)
  · exact ⟨m, s.configCheck_eq_ok hmask hmin hmax hcpc hcpcMax hmap⟩

end Sys2Proof.Machine
end

section
/-! The demultiplexer and its inverse (42_bitplane_demux R141–R147). The idea of the part: the pairs `(i, j)` number the
words 1..30784, each once, and the ranks `k` number the mask's bits, each once. So the bit that the inverse puts for
sample `i` of plane `k` at `j` is overwritten by no other, and it is the one that the demultiplexer reads there. -/

namespace Sys2Proof.Machine

/-! ### Word offsets -/

theorem wordOffset_inj {i j i' j' : Nat} (hj : j < Config.sampleBits) (hj' : j' < Config.sampleBits)
    (h : wordOffset i j = wordOffset i' j') : i = i' ∧ j = j' := by
  have hj16 : j < 16 := hj
  have hj16' : j' < 16 := hj'
  rw [wordOffset_eq, wordOffset_eq] at h
  omega

theorem exists_wordOffset_eq {n : Nat} (h1 : 1 ≤ n) (hn : n ≤ 30784) :
    ∃ i < 1924, ∃ j < 16, wordOffset i j = n :=
  ⟨(n - 1) / 16, by omega, (n - 1) % 16, by omega, by rw [wordOffset_eq]; omega⟩

/-- Settles O42: quotient and remainder of `n - 1` by 16 give the pair, and a validated frame reaches WORDS_NEEDED. -/
theorem wordOffsetsBijection : Obligations.WordOffsetsBijection := by
  refine ⟨fun i hi j hj => ⟨wordOffset_eq i j, wordOffset_bounds hi hj⟩, fun n h1 hn => ?_,
    fun s hs hok i hi j hj => ?_⟩
  · obtain ⟨i, hi, j, hj, hoff⟩ := exists_wordOffset_eq h1 hn
    exact ⟨i, j, ⟨hi, hj, hoff⟩, fun i' j' _ hj' hoff' => wordOffset_inj hj' hj (hoff'.trans hoff.symm)⟩
  · obtain ⟨-, hwpe, -⟩ := hs.configured hok
    exact Nat.lt_of_lt_of_le (Nat.lt_succ_of_le (wordOffset_bounds hi hj).2) hwpe

/-! ### The planes of the result -/

theorem pos_lt_pos {m : Word} {k k' : Nat} (hlt : k < k') (hk' : k' < popcount m) : pos m k < pos m k' := by
  have ascending : (setBits m).Pairwise (· < ·) := List.pairwise_lt_range.filter _
  rw [pos, pos, List.getD_eq_getElem _ _ (hlt.trans hk'), List.getD_eq_getElem _ _ hk']
  exact List.pairwise_iff_getElem.mp ascending k k' _ _ hlt

theorem pos_inj {m : Word} {k k' : Nat} (hk : k < popcount m) (hk' : k' < popcount m) (h : pos m k = pos m k') :
    k = k' := by
  rw [← rank_pos hk, ← rank_pos hk', h]

theorem getElem?_demux (fb : Memory Word) {m : Word} {k : Nat} (hk : k < popcount m) :
    (demux fb m)[k]? = some (demuxPlane fb (pos m k)) := by
  rw [demux, List.getElem?_map, getElem?_setBits hk, Option.map_some]

/-- Settles O39: the arrays are the bit-lines of the set bits, which ascend. -/
theorem demuxOutputShape : Obligations.DemuxOutputShape := by
  refine fun fb m => ⟨length_demux fb m, fun k hk => ?_, fun k k' => pos_lt_pos⟩
  have hplane : (demux fb m).getD k [] = demuxPlane fb (pos m k) := by
    rw [List.getD_eq_getElem?_getD, getElem?_demux fb hk, Option.getD_some]
  exact ⟨hplane ▸ length_demuxPlane fb _, hplane⟩

/-- Settles O40: the words `off(i, j)` are among 1..30784, and a plane reads only its own bit of them. -/
theorem demuxIgnoresOtherBits : Obligations.DemuxIgnoresOtherBits := by
  refine fun fb fb' m hagree => demux_congr fun i hi j hj p hp => ?_
  obtain ⟨h1, h2⟩ := wordOffset_bounds hi hj
  obtain ⟨hp32, hbit⟩ := (mem_setBits m p).mp hp
  exact hagree _ h1 h2 p hp32 hbit

/-! ### The sample memory -/

theorem planeAt_writePlanes_of_length_le {α : Type} [OfNat α 0] [DecidableEq α] (ms : List (Memory α))
    {rows : List (List α)} {k : Nat} (hk : rows.length ≤ k) : planeAt (writePlanes ms rows) k = planeAt ms k := by
  rcases Nat.lt_or_ge k ms.length with hlt | hge
  · rw [planeAt_writePlanes ms rows k hlt, dif_neg (Nat.not_lt.mpr hk)]
  · rw [planeAt, planeAt, List.getD_eq_default _ _ (by rwa [length_writePlanes]), List.getD_eq_default _ _ hge]

theorem State.read_planeAt_demuxFrame {s : State} (hsm : s.session.sm.length = Config.lines) {k i : Nat}
    (hk : k < s.planes) (hi : i < Config.nSamples) :
    (planeAt s.demuxFrame.session.sm k).read i = demuxSample s.session.fb (pos s.session.activeMask k) i := by
  have hplane : (planeAt s.demuxFrame.session.sm k).readRange 0 Config.nSamples =
      demuxPlane s.session.fb (pos s.session.activeMask k) :=
    readRange_writePlanes _ (by rw [length_demux, hsm]; exact s.planes_le) (getElem?_demux _ hk) (length_demuxPlane _ _)
  have hread := Memory.getD_readRange (planeAt s.demuxFrame.session.sm k) 0 Config.nSamples i hi
  have hi' : i < (demuxPlane s.session.fb (pos s.session.activeMask k)).length := by rwa [length_demuxPlane]
  rw [Nat.zero_add, hplane, List.getD_eq_getElem _ _ hi', getElem_demuxPlane] at hread
  exact hread.symm

/-- Settles O38: an active plane holds the samples of its bit-line, whose bits are the words' bits. -/
theorem demuxBitRule : Obligations.DemuxBitRule := by
  refine fun s hsm => ⟨fun k hk i hi j hj => ?_, fun k hk => ?_, rfl⟩
  · rw [State.read_planeAt_demuxFrame hsm hk hi, getLsbD_demuxSample _ _ i hj, wordOffset_eq]
  · exact planeAt_writePlanes_of_length_le _ (by rwa [length_demux])

/-! ### The inverse -/

/-- What one turn of the inverse's loop sets: bit `p`, to the sample's bit. -/
theorem getLsbD_encTurn (b : Bool) (p n : Nat) :
    ((BitVec.ofBool b).setWidth 32 <<< p : Word).getLsbD n = (decide (n < 32 ∧ n = p) && b) := by
  simp only [BitVec.getLsbD_shiftLeft, BitVec.getLsbD_setWidth, BitVec.getLsbD_ofBool]
  grind

theorem getLsbD_encWord_pos (S : List (List Sample)) {m : Word} (i j : Nat) {k : Nat} (hk : k < popcount m) :
    (encWord S m i j).getLsbD (pos m k) = (sampleAt S k i).getLsbD (15 - j) := by
  have hzero : (0 : Word).getLsbD (pos m k) = false := BitVec.getLsbD_zero
  rw [encWord, getLsbD_foldl_or, hzero, Bool.false_or, Bool.eq_iff_iff, List.any_eq_true]
  simp only [getLsbD_encTurn, Bool.and_eq_true, decide_eq_true_eq, List.mem_range]
  constructor
  · rintro ⟨k', hk', ⟨-, hturn⟩, hbit⟩
    rwa [pos_inj hk hk' hturn]
  · exact fun hbit => ⟨k, hk, ⟨pos_lt_lines hk, rfl⟩, hbit⟩

theorem read_enc (S : List (List Sample)) (m : Word) {i j : Nat} (hi : i < Config.nSamples)
    (hj : j < Config.sampleBits) : (enc S m).read (wordOffset i j) = encWord S m i j := by
  obtain ⟨h1, h30784⟩ := wordOffset_bounds hi hj
  have hrun : wordOffset i j < Config.headerWords + Config.nSamples * Config.sampleBits := Nat.lt_succ_of_le h30784
  have hindex : wordOffset i j - Config.headerWords = Config.sampleBits * i + j := by
    rw [wordOffset, Nat.add_assoc, Nat.add_sub_cancel_left]
  have hlt : Config.sampleBits * i + j < Config.nSamples * Config.sampleBits :=
    hindex ▸ Nat.sub_lt_left_of_lt_add h1 hrun
  have hdiv : (Config.sampleBits * i + j) / Config.sampleBits = i := by
    rw [Nat.mul_add_div (Nat.zero_lt_of_lt hj), Nat.div_eq_of_lt hj, Nat.add_zero]
  have hmod : (Config.sampleBits * i + j) % Config.sampleBits = j := by
    rw [Nat.mul_add_mod, Nat.mod_eq_of_lt hj]
  rw [enc, Memory.read_writeRange, List.length_map, List.length_range, if_pos ⟨h1, hrun⟩, hindex,
    List.getD_eq_getElem?_getD, List.getElem?_map, List.getElem?_range hlt, Option.map_some, Option.getD_some, hdiv,
    hmod]

theorem isEnc_enc (S : List (List Sample)) (m : Word) : IsEnc (enc S m) S m := by
  intro k hk i hi j hj
  rw [read_enc S m hi hj, getLsbD_encWord_pos S i j hk]

theorem sampleAt_eq_getElem {S : List (List Sample)} {k i : Nat} (hk : k < S.length) (hi : i < S[k].length) :
    sampleAt S k i = S[k][i] := by
  rw [sampleAt, List.getD_eq_getElem _ _ hk, List.getD_eq_getElem _ _ hi]

/-- An inverse's bit-line at `pos(m, k)` is array `k`. -/
theorem IsEnc.demuxPlane_pos {fb : Memory Word} {S : List (List Sample)} {m : Word} (h : IsEnc fb S m) {k : Nat}
    (hm : k < popcount m) (hk : k < S.length) (hlen : S[k].length = Config.nSamples) :
    demuxPlane fb (pos m k) = S[k] := by
  refine List.ext_getElem (by rw [length_demuxPlane, hlen]) fun i hi hi' => ?_
  have hin : i < Config.nSamples := Nat.lt_of_lt_of_eq hi' hlen
  rw [getElem_demuxPlane, ← sampleAt_eq_getElem hk hi']
  exact (eq_demuxSample fun j hj => (h k hm i hin j hj).symm).symm

theorem IsEnc.demux_eq {fb : Memory Word} {S : List (List Sample)} {m : Word} (h : IsEnc fb S m)
    (hplanes : S.length = popcount m) (hsamples : ∀ a ∈ S, a.length = Config.nSamples) : demux fb m = S := by
  refine List.ext_getElem (by rw [length_demux, hplanes]) fun k hk hk' => ?_
  have hm : k < popcount m := Nat.lt_of_lt_of_eq hk' hplanes
  have hplane : (demux fb m)[k] = demuxPlane fb (pos m k) :=
    (List.getElem?_eq_some_iff.mp (getElem?_demux fb hm)).2
  rw [hplane, h.demuxPlane_pos hm hk' (hsamples _ (List.getElem_mem hk'))]

/-- Settles O41: what the inverse puts at the mask's positions is what the demultiplexer reads there. -/
theorem demuxRoundTrip : Obligations.DemuxRoundTrip :=
  fun S m hplanes hsamples => ⟨isEnc_enc S m, fun _ h => h.demux_eq hplanes hsamples⟩

end Sys2Proof.Machine
end

section
/-! Validation (43_channel_mapper R164, R165): the first record of the frame that fails decides the outcome, and which
records can fail at all is up to the record check. -/

namespace Sys2Proof.Machine

section
variable (s : State)

/-- The first of an event's records that fails, in ascending plane order, raises RecordValidationError. -/
theorem State.assemble_of_invalid {recs : List ChipRecord} {k : Nat} (hlen : recs.length = s.planes)
    (hrecs : ∀ (k' : Nat) (h : k' < recs.length), recs[k'] = s.recordAt k')
    (hbefore : ∀ (k' : Nat) (h : k' < recs.length), k' < k → s.recordValid recs[k'] = true)
    (hk : k < recs.length) (hinvalid : s.recordValid recs[k] = false) :
    s.assemble = s.raise (.recordValidationError (BitVec.ofNat 5 k)) := by
  have hfirst : s.firstInvalid = some k := by
    refine List.find?_range_eq_some.mpr ⟨?_, List.mem_range.mpr (hlen ▸ hk), fun k' hk' => ?_⟩
    · rw [← hrecs k hk, hinvalid, Bool.not_false]
    · have h : k' < recs.length := hk'.trans hk
      rw [← hrecs k' h, hbefore k' h hk', Bool.not_true, Bool.not_false]
  rw [State.assemble, hfirst]

/-- COUNTS_OK is true of every record the assembler forms. -/
theorem State.recordValid_recordAt_of_countsOk (hcheck : s.params.recordCheck = .countsOk) (k : Nat) :
    s.recordValid (s.recordAt k) = true := by
  simp [State.recordValid, hcheck, RecordCheck.valid]

end

/-- A frame with an invalid record is rejected at the first one. -/
theorem State.assemble_frameStored_of_invalid {s : State} (hsm : s.session.sm.length = Config.lines)
    (hgeom : s.session.geom.length = Config.lines) {recs : List ChipRecord} {k : Nat}
    (hwpe : Config.wordsNeeded ≤ s.wpe) (hlen : recs.length = s.planes)
    (hrecs : ∀ (k' : Nat) (h : k' < recs.length), s.IsFrameRecord k' recs[k'])
    (hbefore : ∀ (k' : Nat) (h : k' < recs.length), k' < k → s.recordValid recs[k'] = true)
    (hk : k < recs.length) (hinvalid : s.recordValid recs[k] = false) :
    s.frameStored.assemble = s.frameStored.raise (.recordValidationError (BitVec.ofNat 5 k)) := by
  have hrecords (k' : Nat) (h : k' < recs.length) : recs[k'] = s.frameStored.recordAt k' :=
    (hrecs k' h).eq_recordAt hsm hgeom hwpe (hlen ▸ h)
  rw [s.frameStored_eq] at hrecords ⊢
  exact State.assemble_of_invalid _ hlen hrecords hbefore hk hinvalid

theorem RecordCheck.valid_zeroRecord (check : RecordCheck) : check.valid Config.cpcDefault zeroRecord = true := by
  cases check with
  | collaborator => simp [RecordCheck.valid]
  | countsOk => simp [RecordCheck.valid, zeroRecord]
  | firstSampleZero => rfl

/-- Settles O35: NEXT_EVENT of a readable frame stores it, and validation stops at the first of the records of the
source's bytes that fails; a plane number fits PLANE's five bits. -/
theorem nextEventRejectsFirstInvalid : Obligations.NextEventRejectsFirstInvalid := by
  intro s recs k hs hdata hready hopen hin hreads hlen hrecs hbefore ⟨hk, hinvalid⟩
  obtain ⟨-, hwpe, -⟩ := hs.configured (hs.cfgOk_of_eventReady hready)
  have hplane : k < 32 := Nat.lt_of_lt_of_le hk (hlen ▸ popcount_le _)
  have hreject := State.assemble_frameStored_of_invalid (s := s.setEventValid false) hdata.sm.1 hdata.geom.1 hwpe hlen
    hrecs hbefore hk hinvalid
  refine ⟨_, exec_nextEvent_of_eventReady s hs.notBusy hready, ?_⟩
  rw [State.produceEvent_of_frame (s.setEventValid false) hopen hin hreads, hreject, State.frameStored_eq]
  exact ⟨rfl, rfl, rfl, Nat.mod_eq_of_lt hplane, rfl, rfl, rfl, rfl, rfl, rfl, rfl, rfl, rfl, rfl, rfl, rfl, rfl, rfl⟩

/-- Settles O44: each check the model admits accepts the record of R164's law, and COUNTS_OK every record of the
assembler. -/
theorem recordCheckObeysLaw : Obligations.RecordCheckObeysLaw := by
  refine ⟨RecordCheck.valid_zeroRecord, fun s hcheck => List.find?_eq_none.mpr fun k _ => ?_⟩
  simp [s.recordValid_recordAt_of_countsOk hcheck k]

end Sys2Proof.Machine
end

section
/-! The lookups in G (43_channel_mapper R161, R162). -/

namespace Sys2Proof.Machine

theorem getElem?_lookups (map : List MapEntry) {planes k : Nat} (cpc : Nat) (hk : k < planes) :
    (lookups map planes cpc)[k]? = some ((List.range cpc).map (geomIdOf map k)) := by
  rw [lookups, List.getElem?_map, List.getElem?_range hk, Option.map_some]

theorem State.read_planeAt_mapChannels {s : State} (hgeom : s.session.geom.length = Config.lines) {k c : Nat}
    (hk : k < s.planes) (hc : c < s.cpc) :
    (planeAt s.mapChannels.session.geom k).read c = geomIdOf s.platform.map k c := by
  have hrow : (planeAt s.mapChannels.session.geom k).readRange 0 s.cpc =
      (List.range s.cpc).map (geomIdOf s.platform.map k) :=
    readRange_writePlanes _ (by rw [length_lookups, hgeom]; exact s.planes_le) (getElem?_lookups _ _ hk) (by simp)
  have hread := Memory.getD_readRange (planeAt s.mapChannels.session.geom k) 0 s.cpc c hc
  rw [Nat.zero_add, hrow] at hread
  rw [← hread]
  simp [hc]

/-- Settles O43: the rows of the active planes are written with the looked-up ids, as many as the configuration says. -/
theorem lookupsFillG : Obligations.LookupsFillG := by
  refine fun s hgeom => ⟨fun k hk c hc => ?_, fun k c hkc => ?_, rfl⟩
  · exact State.read_planeAt_mapChannels hgeom hk hc
  · exact read_writePlanes_outside _ (length_of_mem_lookups _ _ _) (by rwa [length_lookups])

end Sys2Proof.Machine
end

section
/-! The collections the sink gets (43_channel_mapper R163, R166, R167). A step that does not run NEXT_EVENT to its end
leaves the sink alone; one that does emits the collection of the stored frame. What a collection holds and how EC moves
are both read off this. -/

namespace Sys2Proof.Machine

/-- No event has been counted: the sink's history and EC are as they were. -/
structure State.SameEvents (s t : State) : Prop where
  sink : t.sink = s.sink
  ec : t.session.ec = s.session.ec

/-- NEXT_EVENT has been accepted in `s` and has emitted the frame it stored. -/
structure State.EmitsFrame (s t : State) : Prop where
  live : s.session.phase.terminal = false
  locked : s.cfgWritable = false
  result : t = (s.setEventValid false).frameStored.emitEvent

/-! ### What each step does to the sink and EC -/

theorem State.SameEvents.raise {s t : State} (h : s.SameEvents t) (x : Exc) : s.SameEvents (t.raise x) :=
  ⟨h.sink, h.ec⟩

section
variable (s : State)

theorem State.frameRequested_sameEvents : s.SameEvents s.frameRequested := by
  rw [State.frameRequested_eq]; exact ⟨rfl, rfl⟩

theorem State.frameStored_sameEvents : s.SameEvents s.frameStored := by
  rw [State.frameStored_eq]; exact ⟨rfl, rfl⟩

theorem State.assemble_emits_or_raises : s.assemble = s.emitEvent ∨ ∃ x, s.assemble = s.raise x := by
  unfold State.assemble
  split
  · exact .inr ⟨_, rfl⟩
  · exact .inl rfl

theorem State.produceEvent_emits_or_keeps :
    s.produceEvent = s.frameStored.emitEvent ∨ s.SameEvents s.produceEvent := by
  cases hopen : s.canOpen with
  | false =>
    obtain ⟨hclosed, hfails⟩ : s.session.srcOpen = false ∧ s.openAnswer = false := by
      simpa [State.canOpen] using hopen
    rw [s.produceEvent_of_openFails hclosed hfails]
    exact .inr ⟨rfl, rfl⟩
  | true =>
    rw [s.produceEvent_answers hopen]
    split
    · split
      · exact .inr (s.frameRequested_sameEvents.raise _)
      · rcases s.frameStored.assemble_emits_or_raises with h | ⟨x, h⟩
        · exact .inl h
        · rw [h]; exact .inr (s.frameStored_sameEvents.raise x)
    · exact .inr (s.frameRequested_sameEvents.raise _)

theorem State.nextEvent_emits_or_keeps : s.EmitsFrame s.nextEvent ∨ s.SameEvents s.nextEvent := by
  rcases s.nextEvent_cases with ⟨-, h⟩ | ⟨-, -, h⟩ | ⟨hlive, hlocked, h⟩
  · rw [h]; exact .inr ⟨rfl, rfl⟩
  · rw [h]; exact .inr ⟨rfl, rfl⟩
  · rcases (s.setEventValid false).produceEvent_emits_or_keeps with hemit | hkeep
    · exact .inl ⟨hlive, hlocked, h.trans hemit⟩
    · rw [h]; exact .inr ⟨hkeep.sink, hkeep.ec⟩

theorem State.start_sameEvents : s.SameEvents s.start := by
  rcases s.start_cases with ⟨-, h⟩ | ⟨x, -, -, h⟩ | ⟨m, -, -, h⟩
  all_goals rw [h]; exact ⟨rfl, rfl⟩

theorem State.writeCfg_sameEvents (f : CfgRegs → CfgRegs) : s.SameEvents (s.writeCfg f) := by
  unfold State.writeCfg
  split <;> exact ⟨rfl, rfl⟩

theorem State.deliver_emits_or_keeps {w : HostWord} {t : State} (h : s.deliver w = .next t) :
    (w = nextWord ∧ s.EmitsFrame t) ∨ s.SameEvents t ∨ (w = sresetWord ∧ t.sink = s.sink ∧ t.session.ec = 0) := by
  cases s.deliver_delivered h with
  | answer | kept | setCmdErr => exact .inr (.inl ⟨rfl, rfl⟩)
  | writeCfg f => exact .inr (.inl (s.writeCfg_sameEvents f))
  | start => exact .inr (.inl s.start_sameEvents)
  | nextEvent hw => exact s.nextEvent_emits_or_keeps.imp (fun hemit => ⟨hw, hemit⟩) .inl
  | newSession hw => exact .inr (.inr ⟨hw, rfl, rfl⟩)

theorem step_emits_or_keeps {t : State} (h : step s = .next t) :
    (∃ rest, s.inbox = .transaction nextWord :: rest ∧ State.EmitsFrame { s with inbox := rest } t) ∨
    s.SameEvents t ∨
    ((s.inbox.head? = some (.transaction sresetWord) ∨ s.inbox.head? = some .resetInput) ∧
      t.sink = s.sink ∧ t.session.ec = 0) := by
  rcases step_cases s h with ⟨-, rfl⟩ | ⟨e, rest, hinbox, ⟨w, rfl, hdeliver⟩ | ⟨rfl, rfl⟩ | ⟨p, -, -, rfl⟩⟩
  · exact .inr (.inl ⟨rfl, rfl⟩)
  · rcases State.deliver_emits_or_keeps _ hdeliver with ⟨rfl, hemit⟩ | hkeep | ⟨rfl, hreset⟩
    · exact .inl ⟨rest, hinbox, hemit⟩
    · exact .inr (.inl ⟨hkeep.sink, hkeep.ec⟩)
    · exact .inr (.inr ⟨.inl (by rw [hinbox]; rfl), hreset⟩)
  · exact .inr (.inr ⟨.inr (by rw [hinbox]; rfl), rfl, rfl⟩)
  · exact .inr (.inl ⟨rfl, rfl⟩)

end

/-! ### The shape of the collection of a frame -/

section
variable {s : State}

theorem State.DataInv.geom_recordAt_frameStored_lt (hdata : s.DataInv) {k : Nat} (hk : k < s.planes) :
    ∀ g ∈ (s.frameStored.recordAt k).geom, g < 2 ^ s.params.geomWidth := by
  rw [State.recordAt_frameStored hdata.sm.1 hdata.geom.1 hk]
  exact lookups_lt hdata.platform _ (List.mem_of_getElem? (getElem?_lookups s.platform.map s.cpc hk))

/-- The board count's mask has four planes a board, and the check of START has bounded CPC. -/
theorem State.SessionInv.collection_frameStored_shaped (hs : s.SessionInv) (hdata : s.DataInv)
    (hok : s.session.cfgOk = true) : s.frameStored.collection.shaped s.params := by
  obtain ⟨hmask, -, -, hcpc, hcpcMax⟩ := hs.configured hok
  obtain ⟨hmin, hmax⟩ := (maskOf_isSome s.cfg.boardCount).mp (by rw [hmask]; rfl)
  have hplanes : s.frameStored.planes = s.planes := by rw [State.frameStored_eq]; rfl
  have hcpcEq : s.frameStored.cpc = s.cpc := by rw [State.frameStored_eq]; rfl
  refine ⟨⟨s.cfg.boardCount.toNat, hmin, hmax, ?_⟩, s.cpc, hcpc, hcpcMax, fun r hr => ?_⟩
  · rw [State.collection, List.length_map, List.length_range, hplanes]
    exact popcount_maskOf hmask
  · obtain ⟨k, hk, rfl⟩ := List.mem_map.mp hr
    have hk' : k < s.planes := hplanes ▸ List.mem_range.mp hk
    exact ⟨State.length_recordAt_samples _ k, hcpcEq ▸ State.length_recordAt_geom _ k,
      hdata.geom_recordAt_frameStored_lt hk'⟩

theorem State.EmitsFrame.sink_eq {t : State} (h : s.EmitsFrame t) :
    t.sink = s.sink ++ [(s.setEventValid false).frameStored.collection] := by
  rw [h.result, State.emitEvent_sink, (s.setEventValid false).frameStored_sameEvents.sink]
  rfl

theorem State.EmitsFrame.shaped {t : State} (h : s.EmitsFrame t) (hs : s.SessionInv) (hdata : s.DataInv) :
    (s.setEventValid false).frameStored.collection.shaped s.params := by
  have hdata' : (s.setEventValid false).DataInv := hdata.of_sameMemories rfl rfl rfl ⟨rfl, rfl, rfl⟩
  exact hs.clearEventValid.collection_frameStored_shaped hdata' (hs.started h.live h.locked).1

end

/-- Settles O50: a step that adds to the sink adds the collection of a frame stored in a validated session. -/
theorem stepKeepsSinkShape : Obligations.StepKeepsSinkShape := by
  intro s t hs hdata hsink hstep
  have hparams : t.params = s.params := (platformConstantInSession s t hstep).1
  rw [State.SinkInv, hparams]
  rcases step_emits_or_keeps s hstep with ⟨rest, hinbox, hemit⟩ | hkeep | ⟨-, hkeep, -⟩
  · have hshaped := hemit.shaped (hs.withInbox rest) (hdata.takeEvent hinbox hdata.platform)
    rw [hemit.sink_eq]
    intro c hc
    rcases List.mem_append.mp hc with hold | hnew
    · exact hsink c hold
    · rw [List.mem_singleton.mp hnew]
      exact hshaped
  · rw [hkeep.sink]; exact hsink
  · rw [hkeep]; exact hsink

/-- Settles O55: the emission takes EC and OUTPUT_KEY as the step found them. -/
theorem eventEmittedOncePerCount : Obligations.EventEmittedOncePerCount := by
  intro s t hstep
  rcases step_emits_or_keeps s hstep with ⟨rest, hinbox, hemit⟩ | hkeep | ⟨hhead, hsink, hec⟩
  · refine .inr ⟨_, by rw [hinbox]; rfl, hemit.sink_eq, ?_⟩
    rw [hemit.result, State.frameStored_eq]
    exact ⟨rfl, rfl, rfl, rfl, rfl⟩
  · exact .inl ⟨hkeep.sink, .inl hkeep.ec⟩
  · exact .inl ⟨hsink, .inr ⟨hec, hhead⟩⟩

end Sys2Proof.Machine
end

section
/-! The host commands and register writes past the gate (44_host_commands R181–R191). The idea of the part: every write
is `hostWrite` of its own effect, so while BUSY each is the write that only sets CMD_ERR, and otherwise it is the effect. -/

namespace Sys2Proof

theorem decodeCmd32_of_reserved {v : Word} (hv : 4 ≤ v.toNat) : decodeCmd32 v = none := by
  unfold decodeCmd32
  split
  case h_5 => rfl
  all_goals omega

end Sys2Proof

namespace Sys2Proof.Machine

section
variable {s : State}

/-! ### The gate (44_host_commands R189) -/

theorem next_hostWrite_of_not_busy (f : State → State) (hbusy : s.busy = false) :
    (.next (s.hostWrite f) : Host.Outcome State Fault Refusal) = .next (f s) :=
  congrArg Host.Outcome.next (s.hostWrite_of_not_busy f hbusy)

theorem next_hostWrite_of_busy (f : State → State) (hbusy : s.busy = true) :
    (.next (s.hostWrite f) : Host.Outcome State Fault Refusal) = .next s.setCmdErr :=
  congrArg Host.Outcome.next (s.hostWrite_of_busy f hbusy)

theorem exec_write_of_busy {i : Instr} (hwrite : (encodeDescriptor i).write = true) (hbusy : s.busy = true) :
    exec i s = .next s.setCmdErr := by
  cases i
  case rdCtrl | rdStatus | rdErrInfo | rdEventCountLo | rdEventCountHi | rdActiveMask | rdActivePlanes | rdBoardCount
      | rdWordsPerEvent | rdChannelsPerChip | rdHexaboardCount | rdChipsPerHexaboard | rdOutputKey | rdCapWpeMax
      | rdCapCpcMax => cases hwrite
  all_goals exact next_hostWrite_of_busy _ hbusy

/-! ### CFG_WRITABLE (10_state R43) -/

theorem State.cfgWritable_eq_false_iff :
    s.cfgWritable = false ↔ ¬ (s.session.phase = .uninit ∧ s.session.cfgOk = false) := by
  rw [← s.cfgWritable_iff, Bool.not_eq_true]

theorem next_writeCfg_of_writable (f : CfgRegs → CfgRegs) (hbusy : s.busy = false) (hw : s.cfgWritable = true) :
    (.next (s.hostWrite fun t => t.writeCfg f) : Host.Outcome State Fault Refusal) =
      .next { s with cfg := f s.cfg } := by
  rw [next_hostWrite_of_not_busy _ hbusy, s.writeCfg_of_writable f hw]

theorem next_writeCfg_of_locked (f : CfgRegs → CfgRegs) (hbusy : s.busy = false) (hw : s.cfgWritable = false) :
    (.next (s.hostWrite fun t => t.writeCfg f) : Host.Outcome State Fault Refusal) = .next s.setCmdErr := by
  rw [next_hostWrite_of_not_busy _ hbusy, s.writeCfg_of_locked f hw]

/-! ### The commands -/

theorem State.start_of_locked (hw : s.cfgWritable = false) : s.start = s.setCmdErr := by
  rcases s.start_cases with ⟨-, h⟩ | ⟨x, hw', -⟩ | ⟨m, hw', -⟩
  · exact h
  all_goals rw [hw] at hw'; cases hw'

theorem exec_nextEvent_of_not_busy (hbusy : s.busy = false) : exec .nextEvent s = .next s.nextEvent :=
  next_hostWrite_of_not_busy State.nextEvent hbusy

theorem State.nextEvent_of_writable (hw : s.cfgWritable = true) :
    s.nextEvent = (s.setEventValid false).setCmdErr := by
  rcases s.nextEvent_cases with ⟨hend, -⟩ | ⟨-, -, h⟩ | ⟨-, hlocked, -⟩
  · rw [(s.cfgWritable_iff.mp hw).1] at hend; cases hend
  · exact h
  · rw [hw] at hlocked; cases hlocked

theorem State.nextEvent_of_terminal (hend : s.session.phase.terminal = true) : s.nextEvent = s.setEventValid false := by
  rcases s.nextEvent_cases with ⟨-, h⟩ | ⟨hlive, -⟩ | ⟨hlive, -⟩
  · exact h
  all_goals rw [hend] at hlive; cases hlive

theorem exists_next_of_command {i : Instr} {c : Word} (command : encodeCmd32 i = some c) :
    ∃ t, exec i s = .next t ∧ exec (.wrCtrl c) s = .next t := by
  obtain ⟨t, ht, -⟩ := exec_delivered s i
  exact ⟨t, ht, (exec_wrCtrl_of_command s command).trans ht⟩

theorem exec_wrCtrl_of_reserved {v : Word} (hbusy : s.busy = false) (hv : 4 ≤ v.toNat) :
    exec (.wrCtrl v) s = .next s.setCmdErr := by
  have reserved : s.runCommand v = s.setCmdErr := by simp only [State.runCommand, decodeCmd32_of_reserved hv]
  rw [← reserved]
  exact next_hostWrite_of_not_busy (fun t => t.runCommand v) hbusy

end

/-- Settles O17: each read answers with its register as it stands. -/
theorem readPlainRegisters : Obligations.ReadPlainRegisters := by
  intro s
  and_intros <;> rfl

/-- Settles O18: past the gate a write of a read-only register has no effect. -/
theorem readOnlyWritesIgnored : Obligations.ReadOnlyWritesIgnored := by
  intro s v hbusy
  and_intros <;> exact next_hostWrite_of_not_busy (fun t => t) hbusy

/-- Settles O19: the six writes are one configuration write, each of its own register. -/
theorem configWriteStoresOrSetsCmdErr : Obligations.ConfigWriteStoresOrSetsCmdErr := by
  refine fun s v hbusy => ⟨fun hnew => ?_, fun hlocked => ?_⟩
  · have hw : s.cfgWritable = true := s.cfgWritable_iff.mpr hnew
    and_intros <;> exact next_writeCfg_of_writable _ hbusy hw
  · have hw : s.cfgWritable = false := State.cfgWritable_eq_false_iff.mpr hlocked
    simp only [List.forall_mem_cons, List.not_mem_nil, false_implies, implies_true, and_true]
    and_intros <;> exact next_writeCfg_of_locked _ hbusy hw

/-- Settles O22: NOP has no effect past the gate. -/
theorem nopChangesNothing : Obligations.NopChangesNothing := fun _ hbusy =>
  next_hostWrite_of_not_busy (fun t => t) hbusy

/-- Settles O21: a command's word runs the command, and the words from 4 on are reserved. -/
theorem ctrlWriteIssuesCommand : Obligations.CtrlWriteIssuesCommand := by
  refine fun s => ⟨fun hbusy => ?_, fun hbusy v => exec_write_of_busy rfl hbusy⟩
  have nop : exec .nop s = .next s := nopChangesNothing s hbusy
  exact ⟨nop, (exec_wrCtrl_of_command s rfl).trans nop, exists_next_of_command rfl, exists_next_of_command rfl,
    exists_next_of_command rfl, fun v hv => exec_wrCtrl_of_reserved hbusy hv⟩

/-- Settles O25: a START while the configuration is locked is out of state. -/
theorem startOutOfStateSetsCmdErr : Obligations.StartOutOfStateSetsCmdErr := by
  intro s hbusy hlocked
  rw [exec_start_of_not_busy hbusy, State.start_of_locked (State.cfgWritable_eq_false_iff.mpr hlocked)]
  rfl

/-- Settles O29: before START the configuration is still writable, and NEXT_EVENT is out of state. -/
theorem nextEventBeforeStart : Obligations.NextEventBeforeStart := by
  intro s hbusy hphase hnew
  rw [exec_nextEvent_of_not_busy hbusy, State.nextEvent_of_writable (s.cfgWritable_iff.mpr ⟨hphase, hnew⟩)]
  rfl

/-- Settles O30: both states are terminal. -/
theorem nextEventInTerminalState : Obligations.NextEventInTerminalState := by
  intro s hbusy hphase
  have hend : s.session.phase.terminal = true := by
    rcases hphase with h | h <;> rw [h] <;> rfl
  rw [exec_nextEvent_of_not_busy hbusy, State.nextEvent_of_terminal hend]
  rfl

/-- Settles O45: past the gate SESSION_RESET writes the session alone, with `Session.reset`. -/
theorem sessionResetStartsNewSession : Obligations.SessionResetStartsNewSession := by
  refine fun s hbusy => ⟨s.newSession, next_hostWrite_of_not_busy State.newSession hbusy, ?_⟩
  and_intros <;> rfl

end Sys2Proof.Machine
end

section
/-! A step on a valid transaction (30_encoding R81, R82; 44_host_commands R180, R189, R191): it runs the instruction of its
register, or else accesses an unassigned offset. -/

namespace Sys2Proof

theorem Descriptor.ofWord_wellFormed {w : HostWord} (hrsvd : w.extractLsb' 40 7 = 0)
    (hdata : w.getLsbD 47 = false → w.extractLsb' 0 32 = 0) : (Descriptor.ofWord w).wellFormed = true := by
  rw [← Bool.not_eq_false, Descriptor.wellFormed_eq_false_iff]
  rintro (h | ⟨hread, h⟩)
  · exact h hrsvd
  · exact h (hdata hread)

end Sys2Proof

namespace Sys2Proof.Machine

section
variable {w : HostWord} (s : State) (hwf : (Descriptor.ofWord w).wellFormed = true)
include hwf

theorem State.deliver_unassignedRead (hmem : w.extractLsb' 32 8 ∉ registerOffsets) (hread : w.getLsbD 47 = false) :
    s.deliver w = .next (s.answer 0) := by
  have hdecode : decode w = .unassignedRead (w.extractLsb' 32 8) := by
    rw [decode_of_unassigned hwf hmem, hread, if_neg Bool.false_ne_true]
  simp only [State.deliver, hdecode, State.readUnassigned]

theorem State.deliver_unassignedWrite (hmem : w.extractLsb' 32 8 ∉ registerOffsets) (hwrite : w.getLsbD 47 = true) :
    s.deliver w = .next (s.hostWrite fun t => t) := by
  have hdecode : decode w = .unassignedWrite (w.extractLsb' 32 8) (w.extractLsb' 0 32) := by
    rw [decode_of_unassigned hwf hmem, if_pos hwrite]
  simp only [State.deliver, hdecode, State.writeUnassigned]

theorem State.deliver_write_of_busy (hwrite : w.getLsbD 47 = true) (hbusy : s.busy = true) :
    s.deliver w = .next s.setCmdErr := by
  by_cases hmem : w.extractLsb' 32 8 ∈ registerOffsets
  · obtain ⟨i, hi⟩ := decode_of_registerOffset hwf hmem
    have hwrite' : (encodeDescriptor i).write = true := by rw [encodeDescriptor_of_decode_eq_instr hi]; exact hwrite
    rw [s.deliver_instr hi, exec_write_of_busy hwrite' hbusy]
  · rw [s.deliver_unassignedWrite hwf hmem hwrite, next_hostWrite_of_busy _ hbusy]

end

/-- Settles O8: the access is delivered to no register: a read is answered 0, a write passes the gate without effect. -/
theorem unassignedAccessEffect : Obligations.UnassignedAccessEffect := by
  refine fun s rest w hinbox hrsvd hmem => ⟨fun hread hdata => ?_, fun hwrite hbusy => ?_⟩
  · have hwf := Descriptor.ofWord_wellFormed hrsvd fun _ => hdata
    rw [step_transaction hinbox, State.deliver_unassignedRead _ hwf hmem hread]
    rfl
  · have hwf := Descriptor.ofWord_wellFormed hrsvd (by simp [hwrite])
    rw [step_transaction hinbox, State.deliver_unassignedWrite _ hwf hmem hwrite]
    exact next_hostWrite_of_not_busy (fun t => t) hbusy

/-- Settles O20: a valid write is an instruction's or one of an unassigned offset, and both pass the gate. -/
theorem writeWhileBusyIgnored : Obligations.WriteWhileBusyIgnored := by
  intro s rest w hbusy hinbox hwrite hrsvd
  have hwf := Descriptor.ofWord_wellFormed hrsvd (by simp [hwrite])
  rw [step_transaction hinbox]
  exact State.deliver_write_of_busy _ hwf hwrite hbusy

/-- Settles O9: the step delivers the transaction, which runs its instruction. -/
theorem stepRunsDecodedInstr : Obligations.StepRunsDecodedInstr := fun _ _ _ _ hinbox hdecode _ =>
  (step_transaction hinbox).trans (State.deliver_instr _ hdecode)

end Sys2Proof.Machine
end

section
/-! The exceptions' terminal states and the events of the inbox (60_exceptions R219, R221, R226, R231). The idea of the
part: in EXHAUSTED and ABORTED no operation but a reset finds its precondition, so a transaction only clears EVENT_VALID,
sets CMD_ERR or answers a read. -/

namespace Sys2Proof.Machine

theorem Phase.terminal_iff {p : Phase} : p.terminal = true ↔ p = .exhausted ∨ p = .aborted := by
  cases p <;> decide

/-- At most EVENT_VALID has been cleared, CMD_ERR set, and the read results extended. -/
structure State.SameButFlags (s t : State) : Prop where
  eventValid : t.session.eventValid = s.session.eventValid ∨ t.session.eventValid = false
  cmdErr : t.session.cmdErr = s.session.cmdErr ∨ t.session.cmdErr = true
  frame : t = { s with results := t.results,
                       session := { s.session with eventValid := t.session.eventValid, cmdErr := t.session.cmdErr } }

section
variable (s : State)

theorem State.sameButFlags_answer (v : Word) : s.SameButFlags (s.answer v) := ⟨.inl rfl, .inl rfl, rfl⟩

theorem State.sameButFlags_refl : s.SameButFlags s := ⟨.inl rfl, .inl rfl, rfl⟩

theorem State.sameButFlags_setCmdErr : s.SameButFlags s.setCmdErr := ⟨.inl rfl, .inr rfl, rfl⟩

theorem State.sameButFlags_clearEventValid : s.SameButFlags (s.setEventValid false) := ⟨.inr rfl, .inl rfl, rfl⟩

theorem State.deliver_sresetWord_of_not_busy (hbusy : s.busy = false) : s.deliver sresetWord = .next s.newSession :=
  calc s.deliver sresetWord
    _ = exec (.wrCtrl 3) s := s.deliver_instr (by decide)
    _ = exec .sessionReset s := exec_wrCtrl_of_command s rfl
    _ = .next s.newSession := next_hostWrite_of_not_busy State.newSession hbusy

theorem step_of_inbox_nil (h : s.inbox = []) : step s = .next s := by
  simp only [step, State.stepInbox, h]

theorem step_of_inbox_cons {e : HostEvent} {rest : List HostEvent} (h : s.inbox = e :: rest) :
    step s = State.takeEvent { s with inbox := rest } e := by
  simp only [step, State.stepInbox, h]

theorem step_attach {p : Platform} {rest : List HostEvent} (h : s.inbox = .attach p :: rest) :
    step s = if s.cfgWritable then .next { s with inbox := rest, platform := p } else .refused .hostDutyBroken :=
  step_of_inbox_cons s h

end

section
variable {s : State} (hend : s.session.phase.terminal = true)
include hend

/-- A session that has ended is not CFG_WRITABLE (10_state R43). -/
theorem State.cfgWritable_of_terminal : s.cfgWritable = false := by
  rw [State.cfgWritable_eq_false_iff]
  rintro ⟨huninit, -⟩
  rw [huninit] at hend
  cases hend

/-- Of the effects of a transaction, START and a configuration write are out of state, NEXT_EVENT requests no frame, and
only SESSION_RESET leaves the terminal state (60_exceptions R219). -/
theorem State.Delivered.sameButFlags_of_terminal {w : HostWord} {t : State} (h : s.Delivered w t)
    (hw : w ≠ sresetWord) : s.SameButFlags t := by
  have locked : s.cfgWritable = false := State.cfgWritable_of_terminal hend
  cases h with
  | answer v => exact s.sameButFlags_answer v
  | kept => exact s.sameButFlags_refl
  | setCmdErr => exact s.sameButFlags_setCmdErr
  | writeCfg f => rw [s.writeCfg_of_locked f locked]; exact s.sameButFlags_setCmdErr
  | start => rw [State.start_of_locked locked]; exact s.sameButFlags_setCmdErr
  | nextEvent => rw [State.nextEvent_of_terminal hend]; exact s.sameButFlags_clearEventValid
  | newSession hreset => exact absurd hreset hw

end

/-- Settles O47: an ended session is not CFG_WRITABLE and NEXT_EVENT ends at once in it, so of the transactions only
SESSION_RESET does more than touch the two flags or answer a read; an attachment is refused. -/
theorem terminalStateIsFinal : Obligations.TerminalStateIsFinal := by
  intro s t e rest hphase hinbox hstep
  have hend : s.session.phase.terminal = true := Phase.terminal_iff.mpr hphase
  cases e with
  | transaction w =>
    rw [step_transaction hinbox] at hstep
    refine ⟨?_, ?_, nofun, nofun⟩
    · rintro _ ⟨⟩ hw
      obtain ⟨hvalid, herr, hframe⟩ :=
        (State.deliver_delivered _ hstep).sameButFlags_of_terminal (s := { s with inbox := rest }) hend hw
      exact ⟨hvalid, herr, hframe⟩
    · rintro ⟨⟩ hbusy
      rw [State.deliver_sresetWord_of_not_busy { s with inbox := rest } hbusy] at hstep
      cases hstep
      rfl
  | resetInput =>
    rw [step_of_inbox_cons s hinbox] at hstep
    cases hstep
    exact ⟨nofun, nofun, fun _ => rfl, nofun⟩
  | attach p =>
    rw [step_attach s hinbox, State.cfgWritable_of_terminal hend] at hstep
    cases hstep

/-- Settles O10: there is no event to take. -/
theorem idleHoldsState : Obligations.IdleHoldsState := step_of_inbox_nil

/-- Settles O12: the two sides are those of CFG_WRITABLE (10_state R43). -/
theorem attachOnlyBeforeStart : Obligations.AttachOnlyBeforeStart := by
  intro s p rest hinbox
  rw [step_attach s hinbox]
  exact ⟨fun hnew => if_pos (s.cfgWritable_iff.mpr hnew), fun hlocked => if_neg (mt s.cfgWritable_iff.mp hlocked)⟩

end Sys2Proof.Machine
end

section
/-! The reset input and the state it gives (70_reset_and_hazards R240): the session of `Session.reset` and the registers
of `CfgRegs.reset`, in which STATUS shows MAP_READY alone. -/

namespace Sys2Proof.Machine

theorem step_resetInput {s : State} {rest : List HostEvent} (h : s.inbox = .resetInput :: rest) :
    step s = .next (State.hardReset { s with inbox := rest }) :=
  step_of_inbox_cons s h

theorem State.statusWord_hardReset (s : State) :
    s.hardReset.statusWord = if s.platform.mapReady then 0x00000080 else 0 := by
  cases h : s.platform.mapReady <;> simp only [State.statusWord, State.hardReset, h] <;> decide

theorem exec_rdStatus_hardReset (s : State) :
    exec .rdStatus s.hardReset = .next (s.hardReset.answer (if s.platform.mapReady then 0x00000080 else 0)) := by
  rw [← s.statusWord_hardReset]
  rfl

theorem State.activePlanesWord_hardReset (s : State) : s.hardReset.activePlanesWord = 0 := by
  have hnone : s.hardReset.planes = 0 := (by decide : popcount 0 = 0)
  rw [State.activePlanesWord, hnone]
  rfl

theorem exec_rdActivePlanes_hardReset (s : State) :
    exec .rdActivePlanes s.hardReset = .next (s.hardReset.answer 0) := by
  rw [← s.activePlanesWord_hardReset]
  rfl

/-- Settles O46: the reset input is `hardReset` of the state without it, and the two reads answer the words of the reset
session. -/
theorem resetInputValues : Obligations.ResetInputValues := by
  refine ⟨fun s rest hinbox => ⟨_, step_resetInput hinbox, rfl, ?session,
    exec_rdStatus_hardReset _, exec_rdActivePlanes_hardReset _⟩, ?powerOn⟩
  all_goals and_intros <;> rfl

/-- Settles O51: the session is an unstarted one, its memories are empty, and the default surroundings and the sink hold
nothing. -/
theorem resetMeetsInvariants : Obligations.ResetMeetsInvariants := by
  have hdata : Session.reset.DataFits Params.default := Session.reset_dataFits _
  exact ⟨sessionInv_of_unstarted rfl Session.reset_unstarted,
    { params := by decide, platform := rfl, events := nofun, fb := hdata.fb, sm := hdata.sm, geom := hdata.geom },
    nofun⟩

end Sys2Proof.Machine
end

section
/-! The end of a run (70_reset_and_hazards R246). The idea of the part: a NEXT_EVENT of a started session ends it or
counts one more frame, and the counted frames fit the source; once the session has ended, further NEXT_EVENTs leave it
ended. So the number of commands within which the session ends goes down by one at each of them, and is 0 only at the
end. -/

namespace Sys2Proof.Machine

theorem run_succ_of_step (M : Host.Core) {s t : M.State} (h : M.step s = .next t) (n : Nat) :
    M.run (n + 1) s = M.run n t := by
  simp only [Host.Core.run, h]

theorem step_nextWord {s : State} {rest : List HostEvent} (hbusy : s.busy = false)
    (hinbox : s.inbox = .transaction nextWord :: rest) :
    step s = .next (State.nextEvent { s with inbox := rest }) := by
  rw [step_transaction hinbox, State.deliver_nextWord]
  exact exec_nextEvent_of_not_busy hbusy

/-- The session has ended, or it goes on and the source does not hold `n` frames past the `EC` counted ones. -/
def State.EndsWithin (s : State) (n : Nat) : Prop :=
  s.finished = true ∨ (s.eventReady = true ∧ s.platform.srcLen < (s.session.ec.toNat + n) * s.frameSize)

section
variable {s : State}

/-- All counted frames are inside the source, so a session with no command left has ended. -/
theorem State.SessionInv.finished_of_endsWithin_zero (hs : s.SessionInv) (h : s.EndsWithin 0) :
    s.finished = true := by
  rcases h with hend | ⟨-, hpast⟩
  · exact hend
  · exact absurd hs.produced.1 (Nat.not_le.mpr hpast)

theorem State.EndsWithin.nextEvent {n : Nat} (h : s.EndsWithin (n + 1)) (hs : s.SessionInv) :
    s.nextEvent.EndsWithin n := by
  rcases h with hend | ⟨hready, hpast⟩
  · rw [State.nextEvent_of_terminal hend]
    exact .inl hend
  · rw [s.nextEvent_of_eventReady hready]
    have setup := (s.setEventValid false).produceEvent_sameSetup
    rcases (s.setEventValid false).produceEvent_outcome with ⟨x, -, hfail⟩ | hemit
    · exact .inl (by rw [State.finished, hfail.phase]; exact x.terminal_terminal)
    · have hec : (s.setEventValid false).produceEvent.session.ec.toNat = s.session.ec.toNat + 1 := by
        rw [hemit.ec]
        exact hs.ec_succ (hs.cfgOk_of_eventReady hready) hemit.inSource.2
      refine .inr ⟨by simp [State.eventReady, hemit.phase], ?_⟩
      rw [setup.platform, setup.frameSize_eq, hec, Nat.add_assoc, Nat.add_comm 1 n]
      exact hpast

end

theorem run_nextWords (n : Nat) {s : State} (hs : s.SessionInv)
    (hinbox : s.inbox = List.replicate n (.transaction nextWord)) (hends : s.EndsWithin n) :
    ∃ t, Host.Core.run Sys2Proof.core n s = .next t ∧ t.finished = true := by
  induction n generalizing s with
  | zero => exact ⟨s, rfl, hs.finished_of_endsWithin_zero hends⟩
  | succ n ih =>
    have hrest := hs.withInbox (List.replicate n (.transaction nextWord))
    rw [run_succ_of_step Sys2Proof.core (step_nextWord hs.notBusy hinbox) n]
    exact ih hrest.nextEvent (State.nextEvent_eventFrame _).inbox (State.EndsWithin.nextEvent hends hrest)

/-- Settles O58: one command more than the source has whole frames is enough, for so many frames it does not hold. -/
theorem finiteSourceEndsTheRun : Obligations.FiniteSourceEndsTheRun := by
  intro s hs hready
  have hpos : 0 < s.frameSize := Nat.lt_of_lt_of_le (by decide) (hs.frameSize_ge (hs.cfgOk_of_eventReady hready))
  have hpast : s.platform.srcLen < (s.session.ec.toNat + (s.platform.srcLen / s.frameSize + 1)) * s.frameSize :=
    (Nat.div_lt_iff_lt_mul hpos).mp (Nat.lt_of_lt_of_le (Nat.lt_succ_self _) (Nat.le_add_left _ _))
  exact ⟨_, Nat.le_refl _, run_nextWords _ (hs.withInbox _) rfl (.inr ⟨hready, hpast⟩)⟩

end Sys2Proof.Machine
end
